-- ==== Sys2Proof/Word.lean ====
section
/-! DEFINITION. The word of the block: one codeword, one output byte or one element of GF(2^8) (00_scope.md
section 6, R48, R90). -/

namespace Sys2Proof

/-- One 8-bit value, bit 0 the least significant (00_scope.md section 6). -/
abbrev Byte := BitVec 8

/-- The Byte of a natural number; every rule that makes a Byte from a number makes it from one below 256. -/
abbrev byte (n : Nat) : Byte := BitVec.ofNat 8 n

end Sys2Proof
end

