-- ==== Sys2Proof/Machine/Operands.lean ====
section
/-! DEFINITION. The operand forms: how numbers are made from codewords and codewords from numbers (R44, R64 to R68,
R200, R201), and the characters that values stand for (R69, R166 to R176, R195). -/

namespace Sys2Proof.Machine

/-- The field `w[hi:lo]` as a number (00_scope.md section 6). -/
def bits (hi lo : Nat) (w : Byte) : Nat := w.toNat / 2 ^ lo % 2 ^ (hi - lo + 1)

/-! ## ASCII (R68 (a), (b)) -/

/-- The character of the decimal digit `d` (R68 (b)). -/
def digitChar (d : Nat) : Nat := 0x30 + d

/-! ## Pairs of C40, Text and X12 (R44 (a), R64, R68 (c)) -/

/-- The 16-bit number of a pair, the codeword at the lower index more significant. -/
def pairNum (w1 w2 : Byte) : Nat := 256 * w1.toNat + w2.toNat

/-- The first codeword of a pair number. -/
def pairHi (num : Nat) : Byte := byte (num / 256)

/-- The second codeword of a pair number. -/
def pairLo (num : Nat) : Byte := byte (num % 256)

/-- Value `a` of a pair number: `V div 1600` with `V = num - 1`. -/
def pairA (num : Nat) : Nat := (num - 1) / 1600

/-- Value `b` of a pair number: `(V mod 1600) div 40`. -/
def pairB (num : Nat) : Nat := (num - 1) % 1600 / 40

/-- Value `c` of a pair number: `V mod 40`. -/
def pairC (num : Nat) : Nat := (num - 1) % 40

/-- The pair number of three values: `1600 a + 40 b + c + 1`. -/
def pairOf (a b c : Nat) : Nat := 1600 * a + 40 * b + c + 1

/-! ## EDIFACT triples (R44 (b), R66, R68 (d), R192) -/

/-- `v0 = w1[7:2]`. -/
def edfV0 (w1 : Byte) : Nat := bits 7 2 w1

/-- `v1 = w1[1:0] || w2[7:4]`. -/
def edfV1 (w1 w2 : Byte) : Nat := bits 1 0 w1 * 16 + bits 7 4 w2

/-- `v2 = w2[3:0] || w3[7:6]`. -/
def edfV2 (w2 w3 : Byte) : Nat := bits 3 0 w2 * 4 + bits 7 6 w3

/-- `v3 = w3[5:0]`. -/
def edfV3 (w3 : Byte) : Nat := bits 5 0 w3

/-- The three codewords of four 6-bit values (the inverse of R68 (d)). -/
def edfWords (v0 v1 v2 v3 : Nat) : List Byte :=
  [byte (v0 * 4 + v1 / 16), byte (v1 % 16 * 16 + v2 / 4), byte (v2 % 4 * 64 + v3)]

/-- How far `IDX` moves on an unlatch in value `j` of a triple: `1, 2, 3, 3` (R194, `EDF_RESUME = BYTE_BOUNDARY`). -/
def edfResume (j : Nat) : Nat :=
  match j with
  | 0 => 1
  | 1 => 2
  | _ => 3

/-! ## Base256 (R44 (c), R200, R201, R203) -/

/-- The offset of the codeword at 0-based index `i`: `(149 (i + 1)) mod 255 + 1`. -/
def randOffset (i : Nat) : Byte := byte (149 * (i + 1) % 255 + 1)

/-- `unrand(v, i)` (R200): subtraction of Bytes is modulo 256. -/
def unrand (v : Byte) (i : Nat) : Byte := v - randOffset i

/-- `randomize255(v, i + 1)` (R201), the assembler's inverse of `unrand`; the block never computes it. -/
def randomize (v : Byte) (i : Nat) : Byte := v + randOffset i

/-- The two-byte length `250 (d0 - 249) + d1` (R203). -/
def b256Len2 (d0 d1 : Byte) : Nat := 250 * (d0.toNat - 249) + d1.toNat

/-! ## Characters of the value rows -/

/-- Digits of the basic set and of X12, values 4 .. 13 (R167, R176). -/
def valueDigit (v : Nat) : Nat := 0x30 + (v - 4)

/-- Letters `A` .. `Z` of the C40 basic set and of X12, values 14 .. 39 (R168, R176). -/
def valueUpper (v : Nat) : Nat := 0x41 + (v - 14)

/-- Letters `a` .. `z` of the Text basic set, values 14 .. 39 (R168). -/
def valueLower (v : Nat) : Nat := 0x61 + (v - 14)

/-- Shift set 2, values 0 .. 14 (R170). -/
def shift2CharA (v : Nat) : Nat := 0x21 + v

/-- Shift set 2, values 15 .. 21 (R170). -/
def shift2CharB (v : Nat) : Nat := 0x3A + (v - 15)

/-- Shift set 2, values 22 .. 26 (R170). -/
def shift2CharC (v : Nat) : Nat := 0x5B + (v - 22)

/-- C40 shift set 3, values 0 .. 31 (R173). -/
def shift3C40 (v : Nat) : Nat := 0x60 + v

/-- Text shift set 3, values 1 .. 26 (R173). -/
def shift3TextUpper (v : Nat) : Nat := 0x41 + (v - 1)

/-- Text shift set 3, values 27 .. 31 (R173). -/
def shift3TextHigh (v : Nat) : Nat := 0x7B + (v - 27)

/-- EDIFACT values 0 .. 30: `v | 0x40` (R195). -/
def edfLow (v : Nat) : Nat := v ||| 0x40

/-! ## The macro prefix (R132, R134) -/

/-- The seven header bytes: `[)>`, RS, `0`, the digit of the macro, GS. -/
def macroHeader (digit : Byte) : List Byte := [0x5B, 0x29, 0x3E, 0x1E, 0x30, digit, 0x1D]

/-- The two trailer bytes: RS, EOT. -/
def macroTrailer : List Byte := [0x1E, 0x04]

/-! ## Loading a stream (R80) -/

/-- The cells of a whole stream, index 0 first. -/
def streamCells (cw : List Byte) : List (Nat × Byte) := (List.range cw.length).zip cw

end Sys2Proof.Machine
end

