-- ==== Sys2Proof/Config.lean ====
section
/-! DEFINITION. What one realisation fixes: the tags, kept symbolic because their binary codes are the open
parameter `ENUM_CODES` (R211, D2; log 15), and the one value that the spec leaves undefined. -/

namespace Sys2Proof

/-- The encoding modes of register `MODE` (R19). -/
inductive Mode
  | ascii | c40 | text | x12 | edifact | base256
  deriving DecidableEq, Repr

/-- The shift sets of register `SSET` (R21): the basic set 0 and the shift sets 1, 2, 3. -/
inductive ShiftSet
  | set0 | set1 | set2 | set3
  deriving DecidableEq, Repr

namespace Config

/-- `ginv(0)`, which "is not defined" (R96): a free value, of which nothing is known (log 7). -/
opaque ginvZero : Byte

end Config

end Sys2Proof
end

