-- ==== Sys2Proof/Machine/State.lean ====
section
/-! DEFINITION. The state of the block (R10 to R34) and of its host, the ways a step can stop, and the state after
reset (R33, R230). -/

namespace Sys2Proof.Machine

/-- The sequencer state `PHASE` (R25). -/
inductive Phase
  | idle | rs | payload | done
  deriving DecidableEq, Repr

/-- The Reed-Solomon outcome `RSSTAT` (R23). -/
inductive RsStat
  | ok | repaired | unrecoverable
  deriving DecidableEq, Repr

/-- The outcome of the transaction `RESULT` (R26). -/
inductive ResultTag
  | success | rsFail | payloadFail
  deriving DecidableEq, Repr

/-- The sub-cause `CAUSE` of a payload failure (R27). -/
inductive Cause
  | none | b256Overrun | reservedCodeword | reservedTriple | reservedValue
  deriving DecidableEq, Repr

/-- `MACRO`: 0, 5 or 6 (R22). -/
inductive MacroTag
  | zero | five | six
  deriving DecidableEq, Repr

/-- The sequencer position, the model's own state (log 4): which micro-operation the block performs next, in the order
of R110, R82 to R85 and R130 to R134; at `group` it executes the group at `IDX` (R131). -/
inductive Micro
  | rsSynd | rsZero | rsLoc | rsChien | rsCount | rsMag | rsCorr | rsEnd | seqBranch
  | plInit | plLoop | plDispatch | group | plEnd | seqDone
  deriving DecidableEq, Repr

/-- What the host does (log 5). LOAD (R80, R239) and START (R81) wait until `PHASE` is IDLE or DONE (R231). -/
inductive HostEvent
  /-- LOAD: any of `DW`, `EW` and cells of `CW`. -/
  | load (dw ew : Option Nat) (cells : List (Nat × Byte))
  /-- START. -/
  | start
  /-- The host does nothing for one step of the block. -/
  | wait
  /-- A reset, which acts whatever `PHASE` is (R230). -/
  | reset
  deriving DecidableEq, Repr

/-- A memory: the cells that hold a value, addresses strictly rising. A cell that is not listed has no value
(log 3): nothing has written it. -/
abbrev Mem := List Host.Cell

/-- The canonical form of a memory: addresses strictly rising. No listed cell can read as an unlisted one does, since
an unlisted one has no value. -/
def Mem.wf : Mem → Bool
  | [] => true
  | c :: m => (m.all fun d => decide (c.1 < d.1)) && Mem.wf m

/-- The complete state (R10), with four fields of the model's own: `dwLoaded`, `ewLoaded`, `upc` and `host`. The
ROM tables `ALPHA_TO` and `EXP_OF` are constants (`Machine/Field.lean`; R29, R232; log 1). -/
structure State where
  /-- `DW`, the number of data codewords (R24). -/
  dw : Nat
  /-- `EW`, the number of error codewords (R24). -/
  ew : Nat
  /-- The host has written `DW` since reset (R236; the model's own record, log 24). -/
  dwLoaded : Bool
  /-- The host has written `EW` since reset (R236; the model's own record, log 24). -/
  ewLoaded : Bool
  /-- `PHASE` (R25). -/
  phase : Phase
  /-- `CW`, the codeword memory (R30, R41). -/
  cw : Mem
  /-- `OUT`, the output bytes (R31, R45). -/
  out : Mem
  /-- `OLEN`, the output length (R31). -/
  olen : Nat
  /-- `S[1..2t]`, the syndromes; element 0 of the list is `S[1]` (R11). -/
  synd : List Byte
  /-- `SIG[0..t-1]`, the locator coefficients (R12). -/
  sig : List Byte
  /-- `NROOT`, the root count (R13). -/
  nroot : Nat
  /-- `LOC[0..NROOT-1]`, the error positions (R13). -/
  loc : List Nat
  /-- `Y[0..NROOT-1]`, the error magnitudes (R14). -/
  y : List Byte
  /-- `RSSTAT` (R23). -/
  rsstat : RsStat
  /-- `IDX`, the program counter (R17). -/
  idx : Nat
  /-- `MODE` (R19). -/
  mode : Mode
  /-- `USH`, the upper-shift flag (R20). -/
  ush : Bool
  /-- `SSET`, the shift set of the next value (R21). -/
  sset : ShiftSet
  /-- `MACRO` (R22). -/
  macroReg : MacroTag
  /-- `RESULT` (R26). -/
  result : ResultTag
  /-- `CAUSE` (R27). -/
  cause : Cause
  /-- `FIDX`, the fault index (R27). -/
  fidx : Nat
  /-- The sequencer position (the model's own, log 4). -/
  upc : Micro
  /-- What the host will do, first event first (the model's own, log 5). -/
  host : List HostEvent
  deriving DecidableEq, Repr

/-- Why the machine stops with a fault. None of them is an exception of the block (R210): those are next states. -/
inductive Fault
  /-- A `CW` index outside `0 .. n-1`, which does not exist (R40). Raised by the accesses to `CW` and by a LOAD of such
  a cell. Safe: by R42 no rule makes such an access. -/
  | noSuchCell (i : Nat)
  /-- A read of a `CW` cell that nothing has written (R236). Raised by the reads of `CW`. Safe: START is refused before
  such a read (log 3). -/
  | unloadedCell (i : Nat)
  /-- A fetch at `IDX >= DW`, where there is no group (R131). Raised by the fetch. Safe: the loop excludes it. -/
  | noGroup (i : Nat)
  deriving DecidableEq, Repr

/-- Why an instruction is refused. -/
inductive Refusal
  /-- The instruction has no meaning in the model. Raised by `exec`. Safe. -/
  | notModelled (mnemonic : String)
  /-- A LOAD or START while `PHASE` is RS or PAYLOAD: outside the protocol, "its effect is unspecified" (R237; U11:
  refuse). Raised by LOAD and START. Safe. -/
  | hostBusy
  /-- A START whose load is not complete (R236). With a cell of `CW[0..n-1]` never written "the transaction's results are
  unspecified" (U15: refused); with `DW` or `EW` never written since reset the spec states no outcome, and the refusal
  is the model's choice (DESIGN CHOICE, log 24). Raised by START. Safe. -/
  | unloadedStart
  deriving DecidableEq, Repr

/-- The outcome of a step of this machine. -/
abbrev Outcome := Host.Outcome State Fault Refusal

/-- The state after reset: `PHASE` is IDLE (R33, R230). Every other value is the model's (log 2): the spec leaves them
unspecified. No cell of `CW` or `OUT` has a value (log 3). -/
def State.reset : State where
  dw := 0
  ew := 0
  dwLoaded := false
  ewLoaded := false
  phase := .idle
  cw := []
  out := []
  olen := 0
  synd := []
  sig := []
  nroot := 0
  loc := []
  y := []
  rsstat := .ok
  idx := 0
  mode := .ascii
  ush := false
  sset := .set0
  macroReg := .zero
  result := .success
  cause := .none
  fidx := 0
  upc := .rsSynd
  host := []

end Sys2Proof.Machine
end

