-- ==== Sys2Proof/Machine/Ops.lean ====
section
/-! DEFINITION. The named operations over memory and registers (R40 to R48), taking an exception (R215, R216), and what
the host sees (R28, R238). There is no return from an exception (R222): the host's next LOAD and START begin afresh. -/

namespace Sys2Proof.Machine

/-! ## One memory -/

/-- The value of the cell at `a`, where it has one. -/
def Mem.read (m : Mem) (a : Nat) : Option Byte :=
  match m with
  | [] => none
  | c :: m => if c.1 = a then some c.2 else Mem.read m a

/-- Write the cell at `a`, keeping the addresses strictly rising. -/
def Mem.write (m : Mem) (a : Nat) (b : Byte) : Mem :=
  match m with
  | [] => [(a, b)]
  | c :: m => if a < c.1 then (a, b) :: c :: m else if c.1 = a then (a, b) :: m else c :: Mem.write m a b

/-! ## `CW` (R30, R40 to R43) -/

/-- `n = DW + EW` (R1, R24). -/
def State.n (s : State) : Nat := s.dw + s.ew

/-- `t = EW div 2` (R1, R111). -/
def State.t (s : State) : Nat := s.ew / 2

/-- `MemRead(i, 1)`: only `0 <= i < n` exists (R40), and only a written cell has a value. -/
def readCw (i : Nat) (s : State) : Except Fault Byte :=
  if i < s.n then
    match s.cw.read i with
    | some b => .ok b
    | none => .error (.unloadedCell i)
  else .error (.noSuchCell i)

/-- `MemWrite(i, 1, b)` (R48). -/
def writeCw (i : Nat) (b : Byte) (s : State) : State := { s with cw := s.cw.write i b }

/-- The `len` codewords from index `i` on. -/
def readRun (i len : Nat) (s : State) : Except Fault (List Byte) :=
  match len with
  | 0 => .ok []
  | k + 1 =>
    match readCw i s with
    | .error f => .error f
    | .ok b =>
      match readRun (i + 1) k s with
      | .error f => .error f
      | .ok bs => .ok (b :: bs)

/-- The load is complete (R236): the host has written `DW`, `EW` and every cell of `CW[0 .. n-1]` since reset. -/
def State.loaded (s : State) : Bool :=
  s.dwLoaded && s.ewLoaded && (List.range s.n).all fun i => (s.cw.read i).isSome

/-- Write the cells of a LOAD; a cell at or above `n` does not exist (R40). -/
def loadCells (n : Nat) (cells : List Host.Cell) (m : Mem) : Except Fault Mem :=
  match cells with
  | [] => .ok m
  | c :: cs => if c.1 < n then loadCells n cs (m.write c.1 c.2) else .error (.noSuchCell c.1)

/-! ## The working registers of the RS phase (R11 to R14): an element the list does not hold is 0 (log 13) -/

/-- `S[i]`, `i >= 1` (R11). -/
def syndAt (s : State) (i : Nat) : Byte := s.synd.getD (i - 1) 0

/-- `LOC[k]` (R13). -/
def locAt (s : State) (k : Nat) : Nat := s.loc.getD k 0

/-- `Y[k]` (R14). -/
def yAt (s : State) (k : Nat) : Byte := s.y.getD k 0

/-! ## `OUT` (R31, R45) -/

/-- `emit(b)` (R45): `OUT[OLEN] <- b; OLEN <- OLEN + 1`. -/
def emit (b : Byte) (s : State) : State := { s with out := s.out.write s.olen b, olen := s.olen + 1 }

/-- Emit bytes in order. -/
def emitAll (bs : List Byte) (s : State) : State :=
  match bs with
  | [] => s
  | b :: bs => emitAll bs (emit b s)

/-! ## The sequencer position (log 4) -/

/-- Continue at micro-operation `u`. -/
def goto (u : Micro) (s : State) : State := { s with upc := u }

/-- A group is finished: the loop of R131 tests its condition again. -/
def endGroup (s : State) : State := goto .plLoop s

/-- The host's remaining events are `q` (log 5). -/
def withHost (q : List HostEvent) (s : State) : State := { s with host := q }

/-- `PHASE` is RS or PAYLOAD: a transaction is running (R51, R237). -/
def State.busy (s : State) : Bool :=
  match s.phase with
  | .idle | .done => false
  | .rs | .payload => true

/-! ## Taking an exception -/

/-- `raise UNRECOVERABLE` (R215): the outcome is recorded and the RS phase is left for SEQ.BRANCH (R83), which records
RS_FAIL. `CW` is not written. -/
def raiseUnrecoverable (s : State) : State := { s with rsstat := .unrecoverable, upc := .seqBranch }

/-- `raise INVALID_PAYLOAD(cause, IDX)` (R216): `IDX` still is the index of the group's first codeword. The whole output
is discarded: `OLEN` is 0 and no cell of `OUT` has a value (log 8). -/
def raiseInvalidPayload (c : Cause) (s : State) : State :=
  { s with result := .payloadFail, cause := c, fidx := s.idx, olen := 0, out := [], phase := .done }

/-- How the execution of a value ends: it is done, or it raises INVALID_PAYLOAD, which ends its group (R163, R216). -/
inductive Eff
  | done (s : State)
  | raised (c : Cause) (s : State)
  deriving DecidableEq, Repr

/-- The next state of an execution: a raised exception is taken (R216). -/
def Eff.settle : Eff → Outcome
  | .done s => .next s
  | .raised c s => .next (raiseInvalidPayload c s)

/-! ## What the host sees (R28, R238) -/

/-- The elements the host may read when `PHASE` is DONE (R28). -/
structure Visible where
  result : ResultTag
  cause : Cause
  fidx : Nat
  rsstat : RsStat
  olen : Nat
  out : List (Option Byte)
  cw : List (Option Byte)
  deriving DecidableEq, Repr

/-- What the host may read (R238): nothing but `PHASE` before DONE; at DONE `OUT[0 .. OLEN-1]`, `CW[0 .. n-1]` and the
result registers. Reads have no side effect. -/
def State.visible (s : State) : Option Visible :=
  match s.phase with
  | .done =>
    some
      { result := s.result, cause := s.cause, fidx := s.fidx, rsstat := s.rsstat, olen := s.olen
        out := (List.range s.olen).map s.out.read, cw := (List.range s.n).map s.cw.read }
  | _ => none

end Sys2Proof.Machine
end

