-- ==== Sys2Proof/Machine/Flags.lean ====
section
/-! DEFINITION. The flags and mode bits of the payload phase: `MODE`, `USH`, `SSET` (R19 to R21). The block has no
arithmetic condition codes (R23). -/

namespace Sys2Proof.Machine

/-- `emit_us(b)` (R141): under upper shift emit `b + 128` and clear `USH`. -/
def emitUs (b : Nat) (s : State) : State :=
  if s.ush then { emit (byte (b + 128)) s with ush := false } else emit (byte b) s

/-- Latch to X12, EDIFACT or Base256 (R139, R143, R145): `USH` is cleared. -/
def latch (m : Mode) (s : State) : State := { s with mode := m, ush := false }

/-- Latch to C40 or Text (R138, R144): `SSET` and `USH` are cleared. -/
def latchShifted (m : Mode) (s : State) : State := { s with mode := m, sset := .set0, ush := false }

/-- End of a C40, Text or X12 run (R161, R162). -/
def endPairRun (s : State) : State := { s with mode := .ascii, sset := .set0, ush := false }

/-- End of an EDIFACT run or of a Base256 field (R191, R194, R205). -/
def endRun (s : State) : State := { s with mode := .ascii, ush := false }

/-- Select the shift set of the next value (R165). -/
def setShift (ss : ShiftSet) (s : State) : State := { s with sset := ss }

/-- Set the upper-shift flag (R142, R172). -/
def setUsh (s : State) : State := { s with ush := true }

/-- Move the program counter past `k` codewords. -/
def advance (k : Nat) (s : State) : State := { s with idx := s.idx + k }

end Sys2Proof.Machine
end

