-- ==== Sys2Proof/Machine/Ascii.lean ====
section
/-! DEFINITION. The macro prefix and the codewords of ASCII mode (43_payload_ascii.md, R132, R135 to R147). -/

namespace Sys2Proof.Machine

/-- The macro prefix (R132): the header, `MACRO`, and decoding goes on at index 1. -/
def macroPrefix (m : MacroTag) (digit : Byte) (s : State) : State :=
  endGroup { emitAll (macroHeader digit) s with macroReg := m, idx := 1 }

/-- A reserved ASCII codeword (R146). -/
def reservedCodeword (s : State) : Outcome := .next (raiseInvalidPayload .reservedCodeword s)

/-- MAC05 (R132). -/
def execMac05 (s : State) : Outcome := .next (macroPrefix .five 0x35 s)

/-- MAC06 (R132). -/
def execMac06 (s : State) : Outcome := .next (macroPrefix .six 0x36 s)

/-- ASC b (R135). -/
def execAsc (b : Nat) (s : State) : Outcome := .next (endGroup (advance 1 (emitUs b s)))

/-- PAD (R136): nothing is emitted and the codewords after it are never read. -/
def execPad (s : State) : Outcome := .next (endGroup { s with idx := s.dw })

/-- DIG dd (R137): plain `emit`, `USH` neither applied nor cleared. -/
def execDig (dd : Nat) (s : State) : Outcome :=
  .next (endGroup (advance 1 (emitAll [byte (digitChar (dd / 10)), byte (digitChar (dd % 10))] s)))

/-- LC40 (R138). -/
def execLc40 (s : State) : Outcome := .next (endGroup (advance 1 (latchShifted .c40 s)))

/-- LB256 (R139). -/
def execLb256 (s : State) : Outcome := .next (endGroup (advance 1 (latch .base256 s)))

/-- FNC1 (R140). -/
def execFnc1 (s : State) : Outcome := .next (endGroup (advance 1 s))

/-- USH (R142). -/
def execUsh (s : State) : Outcome := .next (endGroup (advance 1 (setUsh s)))

/-- LX12 (R143). -/
def execLx12 (s : State) : Outcome := .next (endGroup (advance 1 (latch .x12 s)))

/-- LTXT (R144). -/
def execLtxt (s : State) : Outcome := .next (endGroup (advance 1 (latchShifted .text s)))

/-- LEDF (R145). -/
def execLedf (s : State) : Outcome := .next (endGroup (advance 1 (latch .edifact s)))

/-- ECI v (R147): the operand is consumed and has no effect; without one `IDX` becomes `DW`. -/
def execEci (_v : Option Byte) (s : State) : Outcome := .next (endGroup { s with idx := min (s.idx + 2) s.dw })

/-- RSV.0 (R146). -/
def execRsv0 (s : State) : Outcome := reservedCodeword s

/-- RSV.233: 233 or 234 (R146). -/
def execRsv233 (_w : Byte) (s : State) : Outcome := reservedCodeword s

/-- RSV.236: 236 or 237 at an index above 0 (R146). -/
def execRsv236 (_w : Byte) (s : State) : Outcome := reservedCodeword s

/-- RSV.242: 242 to 255 (R146). -/
def execRsv242 (_w : Byte) (s : State) : Outcome := reservedCodeword s

end Sys2Proof.Machine
end

