-- ==== Sys2Proof/Machine/Base256.lean ====
section
/-! DEFINITION. Base256 mode (46_base256.md, R200 to R206). -/

namespace Sys2Proof.Machine

/-- The plain bytes of the codewords `ws` that stand from index `i` on (R205). -/
def unrandAll (i : Nat) (ws : List Byte) : List Byte :=
  match ws with
  | [] => []
  | w :: ws => unrand w i :: unrandAll (i + 1) ws

/-- The overrun test and the data of a field (R204, R205): `len` codewords from index `start` on. -/
def base256Field (start len : Nat) (s : State) : Outcome :=
  if s.dw < start + len then .next (raiseInvalidPayload .b256Overrun s)
  else
    match readRun start len s with
    | .error f => .fault f
    | .ok ws => .next (endGroup (endRun { emitAll (unrandAll start ws) s with idx := start + len }))

/-- B256.L0: length 0 means all codewords after the length byte (R202). -/
def execB256L0 (s : State) : Outcome := base256Field (s.idx + 1) (s.dw - (s.idx + 1)) s

/-- B256.L1: a one-byte length (R202). -/
def execB256L1 (d0 : Byte) (s : State) : Outcome := base256Field (s.idx + 1) d0.toNat s

/-- B256.L2: a two-byte length; without a second length byte the field overruns (R203). -/
def execB256L2 (d0 : Byte) (d1 : Option Byte) (s : State) : Outcome :=
  match d1 with
  | none => .next (raiseInvalidPayload .b256Overrun s)
  | some d => base256Field (s.idx + 2) (b256Len2 d0 d) s

end Sys2Proof.Machine
end

