-- ==== Sys2Proof/Machine/Edifact.lean ====
section
/-! DEFINITION. EDIFACT mode (45_edifact.md, R190 to R196). -/

namespace Sys2Proof.Machine

/-- E.LOW: a value 0 .. 30 (R195). -/
def edfLowChar (v : Nat) (s : State) : State := emit (byte (edfLow v)) s

/-- E.HIGH: a value 32 .. 63 (R195). -/
def edfHighChar (v : Nat) (s : State) : State := emit (byte v) s

/-- E.UNL: the unlatch in value `j` of the triple (R194). -/
def edfUnlatch (j : Nat) (s : State) : State := advance (edfResume j) (endRun s)

/-- The values of a triple from number `j` on (R193, R194): up to an unlatch, which ends the triple, or to its end. -/
def runEdf (j : Nat) (vs : List Nat) (s : State) : State :=
  match vs with
  | [] => advance 3 s
  | v :: vs =>
    if v ≤ 30 then runEdf (j + 1) vs (edfLowChar v s)
    else if v = 31 then edfUnlatch j s
    else runEdf (j + 1) vs (edfHighChar v s)

/-- EDF.SHORT (R191): nothing is consumed. -/
def execEdfShort (s : State) : Outcome := .next (endGroup (endRun s))

/-- EDF v0,v1,v2,v3 (R192 to R194). -/
def execEdf (v0 v1 v2 v3 : Nat) (s : State) : Outcome := .next (endGroup (runEdf 0 [v0, v1, v2, v3] s))

/-- E.LOW as an instruction (R195). -/
def execELow (v : Nat) (s : State) : Outcome := .next (edfLowChar v s)

/-- E.UNL as an instruction (R194), `j` its place in the triple (log 21). -/
def execEUnl (j : Nat) (s : State) : Outcome := .next (edfUnlatch j s)

/-- E.HIGH as an instruction (R195). -/
def execEHigh (v : Nat) (s : State) : Outcome := .next (edfHighChar v s)

end Sys2Proof.Machine
end

