-- ==== Sys2Proof/Machine/Values.lean ====
section
/-! DEFINITION. The values inside a C40, Text or X12 pair (44_c40_text_x12.md, R164 to R174, R176): for each row its
effect (`val…`, which a pair runs), and its meaning as an instruction (`exec…`). -/

namespace Sys2Proof.Machine

/-! ## Shared effects -/

/-- Basic values 0, 1, 2 (R165): the next value is looked up in shift set `ss`. -/
def shiftTo (ss : ShiftSet) (s : State) : Eff := .done (setShift ss s)

/-- A character of the basic set (R166 to R168). -/
def basicChar (b : Nat) (s : State) : Eff := .done (emitUs b s)

/-- A character of a shift set (R169, R170, R173): a shift holds for one value. -/
def shiftedChar (b : Nat) (s : State) : Eff := .done (setShift .set0 (emitUs b s))

/-- FNC1 in shift set 2 (R171): nothing is emitted. -/
def shiftedFnc1 (s : State) : Eff := .done (setShift .set0 s)

/-- The upper shift of shift set 2 (R172). -/
def shiftedUsh (s : State) : Eff := .done (setShift .set0 (setUsh s))

/-- A value with no entry in the selected shift set (R174). -/
def reservedValue (s : State) : Eff := .raised .reservedValue s

/-- A character of X12 (R176, R177): plain `emit`. -/
def x12Char (b : Nat) (s : State) : Eff := .done (emit (byte b) s)

/-! ## C40 -/

/-- SH1 in C40 (R165). -/
def valSh1C40 (s : State) : Eff := shiftTo .set1 s

/-- SH1 in C40 as an instruction (R165). -/
def execSh1C40 (s : State) : Outcome := (valSh1C40 s).settle

/-- SH2 in C40 (R165). -/
def valSh2C40 (s : State) : Eff := shiftTo .set2 s

/-- SH2 in C40 as an instruction (R165). -/
def execSh2C40 (s : State) : Outcome := (valSh2C40 s).settle

/-- SH3 in C40 (R165). -/
def valSh3C40 (s : State) : Eff := shiftTo .set3 s

/-- SH3 in C40 as an instruction (R165). -/
def execSh3C40 (s : State) : Outcome := (valSh3C40 s).settle

/-- V.SP in C40 (R166). -/
def valVSpC40 (s : State) : Eff := basicChar 0x20 s

/-- V.SP in C40 as an instruction (R166). -/
def execVSpC40 (s : State) : Outcome := (valVSpC40 s).settle

/-- V.DIGIT in C40 (R167). -/
def valVDigitC40 (v : Nat) (s : State) : Eff := basicChar (valueDigit v) s

/-- V.DIGIT in C40 as an instruction (R167). -/
def execVDigitC40 (v : Nat) (s : State) : Outcome := (valVDigitC40 v s).settle

/-- V.UPPER in C40 (R168). -/
def valVUpperC40 (v : Nat) (s : State) : Eff := basicChar (valueUpper v) s

/-- V.UPPER in C40 as an instruction (R168). -/
def execVUpperC40 (v : Nat) (s : State) : Outcome := (valVUpperC40 v s).settle

/-- V.S1 in C40 (R169). -/
def valVS1C40 (v : Nat) (s : State) : Eff := shiftedChar v s

/-- V.S1 in C40 as an instruction (R169). -/
def execVS1C40 (v : Nat) (s : State) : Outcome := (valVS1C40 v s).settle

/-- RSV.S1 in C40 (R174). -/
def valRsvS1C40 (_v : Nat) (s : State) : Eff := reservedValue s

/-- RSV.S1 in C40 as an instruction (R174). -/
def execRsvS1C40 (v : Nat) (s : State) : Outcome := (valRsvS1C40 v s).settle

/-- V.S2A in C40 (R170). -/
def valVS2aC40 (v : Nat) (s : State) : Eff := shiftedChar (shift2CharA v) s

/-- V.S2A in C40 as an instruction (R170). -/
def execVS2aC40 (v : Nat) (s : State) : Outcome := (valVS2aC40 v s).settle

/-- V.S2B in C40 (R170). -/
def valVS2bC40 (v : Nat) (s : State) : Eff := shiftedChar (shift2CharB v) s

/-- V.S2B in C40 as an instruction (R170). -/
def execVS2bC40 (v : Nat) (s : State) : Outcome := (valVS2bC40 v s).settle

/-- V.S2C in C40 (R170). -/
def valVS2cC40 (v : Nat) (s : State) : Eff := shiftedChar (shift2CharC v) s

/-- V.S2C in C40 as an instruction (R170). -/
def execVS2cC40 (v : Nat) (s : State) : Outcome := (valVS2cC40 v s).settle

/-- V.S2FNC1 in C40 (R171). -/
def valVS2fnc1C40 (s : State) : Eff := shiftedFnc1 s

/-- V.S2FNC1 in C40 as an instruction (R171). -/
def execVS2fnc1C40 (s : State) : Outcome := (valVS2fnc1C40 s).settle

/-- RSV.S2A in C40 (R174). -/
def valRsvS2aC40 (_v : Nat) (s : State) : Eff := reservedValue s

/-- RSV.S2A in C40 as an instruction (R174). -/
def execRsvS2aC40 (v : Nat) (s : State) : Outcome := (valRsvS2aC40 v s).settle

/-- V.S2USH in C40 (R172). -/
def valVS2ushC40 (s : State) : Eff := shiftedUsh s

/-- V.S2USH in C40 as an instruction (R172). -/
def execVS2ushC40 (s : State) : Outcome := (valVS2ushC40 s).settle

/-- RSV.S2B in C40 (R174). -/
def valRsvS2bC40 (_v : Nat) (s : State) : Eff := reservedValue s

/-- RSV.S2B in C40 as an instruction (R174). -/
def execRsvS2bC40 (v : Nat) (s : State) : Outcome := (valRsvS2bC40 v s).settle

/-- V.S3 in C40 (R173). -/
def valVS3C40 (v : Nat) (s : State) : Eff := shiftedChar (shift3C40 v) s

/-- V.S3 in C40 as an instruction (R173). -/
def execVS3C40 (v : Nat) (s : State) : Outcome := (valVS3C40 v s).settle

/-- RSV.S3 in C40 (R174). -/
def valRsvS3C40 (_v : Nat) (s : State) : Eff := reservedValue s

/-- RSV.S3 in C40 as an instruction (R174). -/
def execRsvS3C40 (v : Nat) (s : State) : Outcome := (valRsvS3C40 v s).settle

/-! ## Text -/

/-- SH1 in Text (R165). -/
def valSh1Text (s : State) : Eff := shiftTo .set1 s

/-- SH1 in Text as an instruction (R165). -/
def execSh1Text (s : State) : Outcome := (valSh1Text s).settle

/-- SH2 in Text (R165). -/
def valSh2Text (s : State) : Eff := shiftTo .set2 s

/-- SH2 in Text as an instruction (R165). -/
def execSh2Text (s : State) : Outcome := (valSh2Text s).settle

/-- SH3 in Text (R165). -/
def valSh3Text (s : State) : Eff := shiftTo .set3 s

/-- SH3 in Text as an instruction (R165). -/
def execSh3Text (s : State) : Outcome := (valSh3Text s).settle

/-- V.SP in Text (R166). -/
def valVSpText (s : State) : Eff := basicChar 0x20 s

/-- V.SP in Text as an instruction (R166). -/
def execVSpText (s : State) : Outcome := (valVSpText s).settle

/-- V.DIGIT in Text (R167). -/
def valVDigitText (v : Nat) (s : State) : Eff := basicChar (valueDigit v) s

/-- V.DIGIT in Text as an instruction (R167). -/
def execVDigitText (v : Nat) (s : State) : Outcome := (valVDigitText v s).settle

/-- V.LOWER in Text (R168). -/
def valVLowerText (v : Nat) (s : State) : Eff := basicChar (valueLower v) s

/-- V.LOWER in Text as an instruction (R168). -/
def execVLowerText (v : Nat) (s : State) : Outcome := (valVLowerText v s).settle

/-- V.S1 in Text (R169). -/
def valVS1Text (v : Nat) (s : State) : Eff := shiftedChar v s

/-- V.S1 in Text as an instruction (R169). -/
def execVS1Text (v : Nat) (s : State) : Outcome := (valVS1Text v s).settle

/-- RSV.S1 in Text (R174). -/
def valRsvS1Text (_v : Nat) (s : State) : Eff := reservedValue s

/-- RSV.S1 in Text as an instruction (R174). -/
def execRsvS1Text (v : Nat) (s : State) : Outcome := (valRsvS1Text v s).settle

/-- V.S2A in Text (R170). -/
def valVS2aText (v : Nat) (s : State) : Eff := shiftedChar (shift2CharA v) s

/-- V.S2A in Text as an instruction (R170). -/
def execVS2aText (v : Nat) (s : State) : Outcome := (valVS2aText v s).settle

/-- V.S2B in Text (R170). -/
def valVS2bText (v : Nat) (s : State) : Eff := shiftedChar (shift2CharB v) s

/-- V.S2B in Text as an instruction (R170). -/
def execVS2bText (v : Nat) (s : State) : Outcome := (valVS2bText v s).settle

/-- V.S2C in Text (R170). -/
def valVS2cText (v : Nat) (s : State) : Eff := shiftedChar (shift2CharC v) s

/-- V.S2C in Text as an instruction (R170). -/
def execVS2cText (v : Nat) (s : State) : Outcome := (valVS2cText v s).settle

/-- V.S2FNC1 in Text (R171). -/
def valVS2fnc1Text (s : State) : Eff := shiftedFnc1 s

/-- V.S2FNC1 in Text as an instruction (R171). -/
def execVS2fnc1Text (s : State) : Outcome := (valVS2fnc1Text s).settle

/-- RSV.S2A in Text (R174). -/
def valRsvS2aText (_v : Nat) (s : State) : Eff := reservedValue s

/-- RSV.S2A in Text as an instruction (R174). -/
def execRsvS2aText (v : Nat) (s : State) : Outcome := (valRsvS2aText v s).settle

/-- V.S2USH in Text (R172). -/
def valVS2ushText (s : State) : Eff := shiftedUsh s

/-- V.S2USH in Text as an instruction (R172). -/
def execVS2ushText (s : State) : Outcome := (valVS2ushText s).settle

/-- RSV.S2B in Text (R174). -/
def valRsvS2bText (_v : Nat) (s : State) : Eff := reservedValue s

/-- RSV.S2B in Text as an instruction (R174). -/
def execRsvS2bText (v : Nat) (s : State) : Outcome := (valRsvS2bText v s).settle

/-- V.S3GRAVE in Text (R173). -/
def valVS3graveText (s : State) : Eff := shiftedChar 0x60 s

/-- V.S3GRAVE in Text as an instruction (R173). -/
def execVS3graveText (s : State) : Outcome := (valVS3graveText s).settle

/-- V.S3UPPER in Text (R173). -/
def valVS3upperText (v : Nat) (s : State) : Eff := shiftedChar (shift3TextUpper v) s

/-- V.S3UPPER in Text as an instruction (R173). -/
def execVS3upperText (v : Nat) (s : State) : Outcome := (valVS3upperText v s).settle

/-- V.S3HIGH in Text (R173). -/
def valVS3highText (v : Nat) (s : State) : Eff := shiftedChar (shift3TextHigh v) s

/-- V.S3HIGH in Text as an instruction (R173). -/
def execVS3highText (v : Nat) (s : State) : Outcome := (valVS3highText v s).settle

/-- RSV.S3 in Text (R174). -/
def valRsvS3Text (_v : Nat) (s : State) : Eff := reservedValue s

/-- RSV.S3 in Text as an instruction (R174). -/
def execRsvS3Text (v : Nat) (s : State) : Outcome := (valRsvS3Text v s).settle

/-! ## X12 -/

/-- X.CR in X12 (R176). -/
def valXCr (s : State) : Eff := x12Char 0x0D s

/-- X.CR in X12 as an instruction (R176). -/
def execXCr (s : State) : Outcome := (valXCr s).settle

/-- X.STAR in X12 (R176). -/
def valXStar (s : State) : Eff := x12Char 0x2A s

/-- X.STAR in X12 as an instruction (R176). -/
def execXStar (s : State) : Outcome := (valXStar s).settle

/-- X.GT in X12 (R176). -/
def valXGt (s : State) : Eff := x12Char 0x3E s

/-- X.GT in X12 as an instruction (R176). -/
def execXGt (s : State) : Outcome := (valXGt s).settle

/-- X.SP in X12 (R176). -/
def valXSp (s : State) : Eff := x12Char 0x20 s

/-- X.SP in X12 as an instruction (R176). -/
def execXSp (s : State) : Outcome := (valXSp s).settle

/-- X.DIGIT in X12 (R176). -/
def valXDigit (v : Nat) (s : State) : Eff := x12Char (valueDigit v) s

/-- X.DIGIT in X12 as an instruction (R176). -/
def execXDigit (v : Nat) (s : State) : Outcome := (valXDigit v s).settle

/-- X.UPPER in X12 (R176). -/
def valXUpper (v : Nat) (s : State) : Eff := x12Char (valueUpper v) s

/-- X.UPPER in X12 as an instruction (R176). -/
def execXUpper (v : Nat) (s : State) : Outcome := (valXUpper v s).settle

end Sys2Proof.Machine
end

