-- ==== Sys2Proof/Machine/Pair.lean ====
section
/-! DEFINITION. The groups of C40, Text and X12 (44_c40_text_x12.md, R160 to R164, R175). -/

namespace Sys2Proof.Machine

/-! ## The values of a pair -/

/-- R164 in C40: the row of value `v` under the current shift set. -/
def valueC40 (v : Nat) (s : State) : Eff :=
  match s.sset with
  | .set0 =>
    if v = 0 then valSh1C40 s
    else if v = 1 then valSh2C40 s
    else if v = 2 then valSh3C40 s
    else if v = 3 then valVSpC40 s
    else if v ≤ 13 then valVDigitC40 v s
    else valVUpperC40 v s
  | .set1 => if v ≤ 31 then valVS1C40 v s else valRsvS1C40 v s
  | .set2 =>
    if v ≤ 14 then valVS2aC40 v s
    else if v ≤ 21 then valVS2bC40 v s
    else if v ≤ 26 then valVS2cC40 v s
    else if v = 27 then valVS2fnc1C40 s
    else if v ≤ 29 then valRsvS2aC40 v s
    else if v = 30 then valVS2ushC40 s
    else valRsvS2bC40 v s
  | .set3 => if v ≤ 31 then valVS3C40 v s else valRsvS3C40 v s

/-- R164 in Text. -/
def valueText (v : Nat) (s : State) : Eff :=
  match s.sset with
  | .set0 =>
    if v = 0 then valSh1Text s
    else if v = 1 then valSh2Text s
    else if v = 2 then valSh3Text s
    else if v = 3 then valVSpText s
    else if v ≤ 13 then valVDigitText v s
    else valVLowerText v s
  | .set1 => if v ≤ 31 then valVS1Text v s else valRsvS1Text v s
  | .set2 =>
    if v ≤ 14 then valVS2aText v s
    else if v ≤ 21 then valVS2bText v s
    else if v ≤ 26 then valVS2cText v s
    else if v = 27 then valVS2fnc1Text s
    else if v ≤ 29 then valRsvS2aText v s
    else if v = 30 then valVS2ushText s
    else valRsvS2bText v s
  | .set3 =>
    if v = 0 then valVS3graveText s
    else if v ≤ 26 then valVS3upperText v s
    else if v ≤ 31 then valVS3highText v s
    else valRsvS3Text v s

/-- R164 in X12 (R176): no shift sets. -/
def valueX12 (v : Nat) (s : State) : Eff :=
  if v = 0 then valXCr s
  else if v = 1 then valXStar s
  else if v = 2 then valXGt s
  else if v = 3 then valXSp s
  else if v ≤ 13 then valXDigit v s
  else valXUpper v s

/-- Execute values in order, each seeing what the one before left; the first to raise ends the group (R163, R219 (c)). -/
def runValues (value : Nat → State → Eff) (vs : List Nat) (s : State) : Eff :=
  match vs with
  | [] => .done s
  | v :: vs =>
    match value v s with
    | .done s' => runValues value vs s'
    | .raised c s' => .raised c s'

/-! ## The groups -/

/-- PAIR.SHORT (R161): nothing is consumed. -/
def pairShort (s : State) : Outcome := .next (endGroup (endPairRun s))

/-- UNL (R162). -/
def unlatch (s : State) : Outcome := .next (endGroup (advance 1 (endPairRun s)))

/-- TRI a,b,c (R163): `IDX` is assigned after the values. -/
def triple (value : Nat → State → Eff) (a b c : Nat) (s : State) : Outcome :=
  match runValues value [a, b, c] s with
  | .done s' => .next (endGroup (advance 2 s'))
  | .raised cause s' => .next (raiseInvalidPayload cause s')

/-- A reserved pair (R175). -/
def reservedPair (s : State) : Outcome := .next (raiseInvalidPayload .reservedTriple s)

/-- PAIR.SHORT in C40 (R161). -/
def execPairShortC40 (s : State) : Outcome := pairShort s

/-- PAIR.SHORT in Text (R161). -/
def execPairShortText (s : State) : Outcome := pairShort s

/-- PAIR.SHORT in X12 (R161). -/
def execPairShortX12 (s : State) : Outcome := pairShort s

/-- UNL in C40 (R162). -/
def execUnlC40 (s : State) : Outcome := unlatch s

/-- UNL in Text (R162). -/
def execUnlText (s : State) : Outcome := unlatch s

/-- UNL in X12 (R162). -/
def execUnlX12 (s : State) : Outcome := unlatch s

/-- RSV.PAIR0 in C40 (R175). -/
def execRsvPair0C40 (s : State) : Outcome := reservedPair s

/-- RSV.PAIR0 in Text (R175). -/
def execRsvPair0Text (s : State) : Outcome := reservedPair s

/-- RSV.PAIR0 in X12 (R175). -/
def execRsvPair0X12 (s : State) : Outcome := reservedPair s

/-- TRI in C40 (R163). -/
def execTriC40 (a b c : Nat) (s : State) : Outcome := triple valueC40 a b c s

/-- TRI in Text (R163). -/
def execTriText (a b c : Nat) (s : State) : Outcome := triple valueText a b c s

/-- TRI in X12 (R163). -/
def execTriX12 (a b c : Nat) (s : State) : Outcome := triple valueX12 a b c s

/-- RSV.PAIRHI in C40 (R175). -/
def execRsvPairHiC40 (_num : Nat) (s : State) : Outcome := reservedPair s

/-- RSV.PAIRHI in Text (R175). -/
def execRsvPairHiText (_num : Nat) (s : State) : Outcome := reservedPair s

/-- RSV.PAIRHI in X12 (R175). -/
def execRsvPairHiX12 (_num : Nat) (s : State) : Outcome := reservedPair s

end Sys2Proof.Machine
end

