-- ==== Sys2Proof/Machine/Field.lean ====
section
/-! DEFINITION. GF(2^8) arithmetic, its two ROM tables and the linear solver (41_gf256.md, R90 to R101). -/

namespace Sys2Proof.Machine

/-! ## The tables -/

/-- Multiplication by `x` modulo `p(x) = 0x12D` (R2, R91). -/
def xtime (v : Nat) : Nat := if v < 128 then 2 * v else (2 * v) ^^^ 0x12D

/-- `ALPHA_TO`, row `r` holding entries `16 r .. 16 r + 15` (R91, R93, section 1.1). -/
def alphaTable : List Nat :=
  [1, 2, 4, 8, 16, 32, 64, 128, 45, 90, 180, 69, 138, 57, 114, 228] ++
  [229, 231, 227, 235, 251, 219, 155, 27, 54, 108, 216, 157, 23, 46, 92, 184] ++
  [93, 186, 89, 178, 73, 146, 9, 18, 36, 72, 144, 13, 26, 52, 104, 208] ++
  [141, 55, 110, 220, 149, 7, 14, 28, 56, 112, 224, 237, 247, 195, 171, 123] ++
  [246, 193, 175, 115, 230, 225, 239, 243, 203, 187, 91, 182, 65, 130, 41, 82] ++
  [164, 101, 202, 185, 95, 190, 81, 162, 105, 210, 137, 63, 126, 252, 213, 135] ++
  [35, 70, 140, 53, 106, 212, 133, 39, 78, 156, 21, 42, 84, 168, 125, 250] ++
  [217, 159, 19, 38, 76, 152, 29, 58, 116, 232, 253, 215, 131, 43, 86, 172] ++
  [117, 234, 249, 223, 147, 11, 22, 44, 88, 176, 77, 154, 25, 50, 100, 200] ++
  [189, 87, 174, 113, 226, 233, 255, 211, 139, 59, 118, 236, 245, 199, 163, 107] ++
  [214, 129, 47, 94, 188, 85, 170, 121, 242, 201, 191, 83, 166, 97, 194, 169] ++
  [127, 254, 209, 143, 51, 102, 204, 181, 71, 142, 49, 98, 196, 165, 103, 206] ++
  [177, 79, 158, 17, 34, 68, 136, 61, 122, 244, 197, 167, 99, 198, 161, 111] ++
  [222, 145, 15, 30, 60, 120, 240, 205, 183, 67, 134, 33, 66, 132, 37, 74] ++
  [148, 5, 10, 20, 40, 80, 160, 109, 218, 153, 31, 62, 124, 248, 221, 151] ++
  [3, 6, 12, 24, 48, 96, 192, 173, 119, 238, 241, 207, 179, 75, 150, 0]

/-- `EXP_OF`, row `r` holding entries `16 r .. 16 r + 15` (R92, R93, section 1.1). -/
def expTable : List Nat :=
  [255, 0, 1, 240, 2, 225, 241, 53, 3, 38, 226, 133, 242, 43, 54, 210] ++
  [4, 195, 39, 114, 227, 106, 134, 28, 243, 140, 44, 23, 55, 118, 211, 234] ++
  [5, 219, 196, 96, 40, 222, 115, 103, 228, 78, 107, 125, 135, 8, 29, 162] ++
  [244, 186, 141, 180, 45, 99, 24, 49, 56, 13, 119, 153, 212, 199, 235, 91] ++
  [6, 76, 220, 217, 197, 11, 97, 184, 41, 36, 223, 253, 116, 138, 104, 193] ++
  [229, 86, 79, 171, 108, 165, 126, 145, 136, 34, 9, 74, 30, 32, 163, 84] ++
  [245, 173, 187, 204, 142, 81, 181, 190, 46, 88, 100, 159, 25, 231, 50, 207] ++
  [57, 147, 14, 67, 120, 128, 154, 248, 213, 167, 200, 63, 236, 110, 92, 176] ++
  [7, 161, 77, 124, 221, 102, 218, 95, 198, 90, 12, 152, 98, 48, 185, 179] ++
  [42, 209, 37, 132, 224, 52, 254, 239, 117, 233, 139, 22, 105, 27, 194, 113] ++
  [230, 206, 87, 158, 80, 189, 172, 203, 109, 175, 166, 62, 127, 247, 146, 66] ++
  [137, 192, 35, 252, 10, 183, 75, 216, 31, 83, 33, 73, 164, 144, 85, 170] ++
  [246, 65, 174, 61, 188, 202, 205, 157, 143, 169, 82, 72, 182, 215, 191, 251] ++
  [47, 178, 89, 151, 101, 94, 160, 123, 26, 112, 232, 21, 51, 238, 208, 131] ++
  [58, 69, 148, 18, 15, 16, 68, 17, 121, 149, 129, 19, 155, 59, 249, 70] ++
  [214, 250, 168, 71, 201, 156, 64, 60, 237, 130, 111, 20, 93, 122, 177, 150]

/-- `ALPHA_TO[i]`, `0 <= i <= 255`. -/
def alphaTo (i : Nat) : Byte := byte (alphaTable.getD i 0)

/-- `EXP_OF[a]`. -/
def expOf (a : Byte) : Nat := expTable.getD a.toNat 0

/-! ## Primitives -/

/-- `gadd(a, b)` (R94): both addition and subtraction. -/
def gadd (a b : Byte) : Byte := a ^^^ b

/-- `gmul(a, b)` (R95). -/
def gmul (a b : Byte) : Byte :=
  if a = 0 ∨ b = 0 then 0 else alphaTo ((expOf a + expOf b) % 255)

/-- `ginv(a)` (R96). `ginv(0)` is not defined: a free value (log 7). -/
def ginv (a : Byte) : Byte :=
  if a = 0 then Config.ginvZero else alphaTo ((255 - expOf a) % 255)

/-- `gdiv(a, b)` (R97), for `b` not 0. -/
def gdiv (a b : Byte) : Byte := gmul a (ginv b)

/-- `apow(e)` (R98): the exponent is reduced into `0 .. 254`, also when it is negative. -/
def apow (e : Int) : Byte := alphaTo (e % 255).toNat

/-- `XOR` of the terms of a list, 0 when there is none (00_scope.md section 6). -/
def xorAll (l : List Byte) : Byte := l.foldr gadd 0

/-- `XOR_{j = 0 .. k-1} f(j)`. -/
def xorSum (k : Nat) (f : Nat → Byte) : Byte := xorAll ((List.range k).map f)

/-! ## The linear solver (R100) -/

/-- Entry `k` of a row. -/
def entry (row : List Byte) (k : Nat) : Byte := row.getD k 0

/-- Row `r` of a matrix. -/
def matRow (m : List (List Byte)) (r : Nat) : List Byte := m.getD r []

/-- `gmul` of a whole row. -/
def scaleRow (f : Byte) (row : List Byte) : List Byte := row.map (gmul f)

/-- Bitwise exclusive or of two rows. -/
def addRow (a b : List Byte) : List Byte := List.zipWith gadd a b

/-- The least row index at or after `pr` with a non-zero entry in column `col`. -/
def findPivot (m : List (List Byte)) (pr col : Nat) : Option Nat :=
  (List.range m.length).find? fun r => decide (pr ≤ r) && decide (entry (matRow m r) col ≠ 0)

/-- Swap rows `i` and `j`. -/
def swapRows (m : List (List Byte)) (i j : Nat) : List (List Byte) :=
  (m.set i (matRow m j)).set j (matRow m i)

/-- Make the pivot of row `pr` 1 and clear column `col` in every other row. -/
def clearColumn (m : List (List Byte)) (pr col : Nat) : List (List Byte) :=
  (m.set pr (scaleRow (ginv (entry (matRow m pr) col)) (matRow m pr))).mapIdx fun i row =>
    if i = pr ∨ entry row col = 0 then row
    else addRow row
      (scaleRow (entry row col) (scaleRow (ginv (entry (matRow m pr) col)) (matRow m pr)))

/-- The matrix `[A | b]` under elimination, the next pivot row being the number of pivots found, and the columns of
the pivots, row 0 first. -/
structure Elim where
  rows : List (List Byte)
  pivots : List Nat
  deriving DecidableEq, Repr

/-- One column of the elimination: a column with no pivot is free. -/
def elimColumn (e : Elim) (col : Nat) : Elim :=
  match findPivot e.rows e.pivots.length col with
  | none => e
  | some r =>
    { rows := clearColumn (swapRows e.rows r e.pivots.length) e.pivots.length col
      pivots := e.pivots ++ [col] }

/-- The reduced row echelon form of `m` rows, pivoting on columns `0 .. m-1`. -/
def eliminate (m : Nat) (rows : List (List Byte)) : Elim :=
  (List.range m).foldl elimColumn { rows := rows, pivots := [] }

/-- Whether a row below the pivots has a non-zero right-hand side. -/
def inconsistent (m : Nat) (e : Elim) : Bool :=
  (e.rows.drop e.pivots.length).any fun row => decide (entry row m ≠ 0)

/-- `x[k]`: the right-hand side of the row whose pivot stands in column `k`, 0 for a free column. -/
def solutionAt (m : Nat) (e : Elim) (k : Nat) : Byte :=
  match e.pivots.findIdx? (fun c => c == k) with
  | some r => entry (matRow e.rows r) m
  | none => 0

/-- `solve(A, b)` for an `m` by `m` matrix (R100), `none` for INCONSISTENT. -/
def solve (m : Nat) (a : List (List Byte)) (b : List Byte) : Option (List Byte) :=
  let e := eliminate m (List.zipWith (fun row v => row ++ [v]) a b)
  if inconsistent m e then none else some ((List.range m).map (solutionAt m e))

/-- The `m` by `m` matrix with entry `f i k` in row `i`, column `k`. -/
def matrixOf (m : Nat) (f : Nat → Nat → Byte) : List (List Byte) :=
  (List.range m).map fun i => (List.range m).map fun k => f i k

end Sys2Proof.Machine
end

