-- ==== Sys2Proof/Machine/ReedSolomon.lean ====
section
/-! DEFINITION. The Reed-Solomon micro-operations (42_rs_decoder.md, R110 to R126). -/

namespace Sys2Proof.Machine

/-! ## What the micro-operations compute -/

/-- `r(x)` of R116 at `α^i`: the codeword at stream index `n - 1 - j` is the coefficient of `x^j` (R43, R117). -/
def syndrome (cw : List Byte) (i : Nat) : Byte :=
  xorSum cw.length fun j => gmul (cw.getD (cw.length - 1 - j) 0) (apow ((j * i : Nat) : Int))

/-- `S[1 .. 2t]` (R117). -/
def syndromes (cw : List Byte) (t : Nat) : List Byte :=
  (List.range (2 * t)).map fun i => syndrome cw (i + 1)

/-- The locator system of R119. -/
def locatorMatrix (s : State) : List (List Byte) := matrixOf s.t fun i k => syndAt s (s.t + i - k)

/-- The right-hand side of the locator system (R119). -/
def locatorRhs (s : State) : List Byte := (List.range s.t).map fun i => syndAt s (s.t + i + 1)

/-- `q` of R121 at position `i`: `σ(α^(-i))`. -/
def locatorValue (sig : List Byte) (t i : Nat) : Byte :=
  gadd 1 (xorSum t fun k => gmul (sig.getD k 0) (apow (-((i * k + i : Nat) : Int))))

/-- The root search of R121: the positions in `[0, n)`, ascending. -/
def locatorRoots (sig : List Byte) (t n : Nat) : List Nat :=
  (List.range n).filter fun i => locatorValue sig t i == 0

/-- The magnitude system of R123. -/
def magnitudeMatrix (s : State) : List (List Byte) :=
  matrixOf s.nroot fun i k => apow ((locAt s k * (i + 1) : Nat) : Int)

/-- The right-hand side of the magnitude system: the plain syndromes (R123, C9). -/
def magnitudeRhs (s : State) : List Byte := (List.range s.nroot).map fun i => syndAt s (i + 1)

/-- The correction loop of R125 over the indices `ks`: position `p` is stream index `n - 1 - p`. -/
def correctAll (ks : List Nat) (s : State) : Except Fault State :=
  match ks with
  | [] => .ok s
  | k :: ks =>
    if locAt s k < s.n then
      match readCw (s.n - 1 - locAt s k) s with
      | .error f => .error f
      | .ok b => correctAll ks (writeCw (s.n - 1 - locAt s k) (gadd b (yAt s k)) s)
    else .error (.noSuchCell (locAt s k))

/-! ## The micro-operations -/

/-- RS.SYND (R117). -/
def execRsSynd (s : State) : Outcome :=
  match readRun 0 s.n s with
  | .error f => .fault f
  | .ok cw => .next (goto .rsZero { s with synd := syndromes cw s.t })

/-- RS.ZERO (R118): with all syndromes zero the outcome is OK and the RS phase is left. -/
def execRsZero (s : State) : Outcome :=
  if ((List.range (2 * s.t)).all fun i => syndAt s (i + 1) == 0) then
    .next (goto .seqBranch { s with rsstat := .ok })
  else .next (goto .rsLoc s)

/-- RS.LOC (R119); an inconsistent system raises UNRECOVERABLE (R120). -/
def execRsLoc (s : State) : Outcome :=
  match solve s.t (locatorMatrix s) (locatorRhs s) with
  | none => .next (raiseUnrecoverable s)
  | some r => .next (goto .rsChien { s with sig := r })

/-- RS.CHIEN (R121). -/
def execRsChien (s : State) : Outcome :=
  .next (goto .rsCount
    { s with nroot := (locatorRoots s.sig s.t s.n).length, loc := locatorRoots s.sig s.t s.n })

/-- RS.COUNT (R122): no root, or more than `t`, raises UNRECOVERABLE. -/
def execRsCount (s : State) : Outcome :=
  if s.nroot = 0 ∨ s.t < s.nroot then .next (raiseUnrecoverable s) else .next (goto .rsMag s)

/-- RS.MAG (R123); an inconsistent system raises UNRECOVERABLE (R124). -/
def execRsMag (s : State) : Outcome :=
  match solve s.nroot (magnitudeMatrix s) (magnitudeRhs s) with
  | none => .next (raiseUnrecoverable s)
  | some r => .next (goto .rsCorr { s with y := r })

/-- RS.CORR (R125): the only write to `CW` of the block. -/
def execRsCorr (s : State) : Outcome :=
  match correctAll (List.range s.nroot) s with
  | .error f => .fault f
  | .ok s' => .next (goto .rsEnd s')

/-- RS.END (R126): the outcome is REPAIRED; the syndromes are not computed again (R128). -/
def execRsEnd (s : State) : Outcome := .next (goto .seqBranch { s with rsstat := .repaired })

end Sys2Proof.Machine
end

