-- ==== Sys2Proof/Machine/Sequencer.lean ====
section
/-! DEFINITION. The host's operations and the sequencer (40_transaction.md, R80 to R85; the frame of the payload phase,
R130 to R134). -/

namespace Sys2Proof.Machine

/-- LOAD (R80, R239): `DW`, `EW` and cells of `CW`, each where the host names it. Outside IDLE and DONE it is refused
(R237, U11). -/
def execLoad (dw ew : Option Nat) (cells : List Host.Cell) (s : State) : Outcome :=
  if s.busy then .refused .hostBusy
  else
    match loadCells (dw.getD s.dw + ew.getD s.ew) cells s.cw with
    | .error f => .fault f
    | .ok m =>
      .next
        { s with
          dw := dw.getD s.dw
          ew := ew.getD s.ew
          dwLoaded := s.dwLoaded || dw.isSome
          ewLoaded := s.ewLoaded || ew.isSome
          cw := m }

/-- START (R81). Outside IDLE and DONE it is refused (R237, U11), and with a cell that was never written (R236, U15).
With `DW` or `EW` never written since reset R236 says that START must not be issued and states no outcome: that it is
refused then too is the model's choice (DESIGN CHOICE, log 24). -/
def execStart (s : State) : Outcome :=
  if s.busy then .refused .hostBusy
  else if s.loaded then
    .next { s with olen := 0, cause := .none, fidx := 0, phase := .rs, upc := .rsSynd }
  else .refused .unloadedStart

/-- SEQ.BRANCH (R83). -/
def execSeqBranch (s : State) : Outcome :=
  match s.rsstat with
  | .unrecoverable => .next { s with result := .rsFail, phase := .done }
  | .ok | .repaired => .next { s with phase := .payload, upc := .plInit }

/-- PL.INIT (R130). -/
def execPlInit (s : State) : Outcome :=
  .next (goto .plLoop
    { s with idx := 0, mode := .ascii, ush := false, sset := .set0, macroReg := .zero })

/-- PL.LOOP (R131): another group while `IDX < DW`, else the end of the phase. -/
def execPlLoop (s : State) : Outcome :=
  if s.idx < s.dw then .next (goto .plDispatch s) else .next (goto .plEnd s)

/-- PL.DISPATCH (R133): the group at `IDX` is executed next; which rule executes it is the decoder's choice by `MODE`
(`decodeGroup`). -/
def execPlDispatch (s : State) : Outcome := .next (goto .group s)

/-- PL.END (R134): the trailer of a macro. -/
def execPlEnd (s : State) : Outcome :=
  if s.macroReg = .zero then .next (goto .seqDone s)
  else .next (goto .seqDone (emitAll macroTrailer s))

/-- SEQ.DONE (R85): SUCCESS where the payload phase reached its end; where it raised INVALID_PAYLOAD, which `CAUSE` tells,
the failure stays as R216 recorded it (log 20). -/
def execSeqDone (s : State) : Outcome :=
  if s.cause = .none then .next { s with result := .success, phase := .done }
  else .next { s with result := .payloadFail, olen := 0, phase := .done }

end Sys2Proof.Machine
end

