-- ==== Sys2Proof/Syntax.lean ====
section
/-! DEFINITION. The instructions: one constructor for every row of `spec/opcode_table.json`, in the table's order.
A row that the table gives once for each of C40, Text and X12 is one constructor for each mode, its name ending in the
mode. Operands are natural numbers (R68) or whole codewords; `WellFormed.lean` gives their ranges. -/

namespace Sys2Proof

/-- The rows of the opcode table. -/
inductive Instr
  -- the host's two operations (R80, R81); a LOAD may leave out `DW`, `EW` and any cell (R239)
  | load (dw ew : Option Nat) (cells : List (Nat × Byte))
  | start
  -- Reed-Solomon micro-operations (R110)
  | rsSynd
  | rsZero
  | rsLoc
  | rsChien
  | rsCount
  | rsMag
  | rsCorr
  | rsEnd
  -- the sequencer (R83, R85, R130 to R134)
  | seqBranch
  | plInit
  | plLoop
  | plDispatch
  | plEnd
  | seqDone
  -- ASCII mode, formats A, A2 and M (R61, R62, R63)
  | rsv0
  | asc (b : Nat)
  | pad
  | dig (dd : Nat)
  | lc40
  | lb256
  | fnc1
  | rsv233 (w : Byte)
  | ush
  | mac05
  | mac06
  | rsv236 (w : Byte)
  | lx12
  | ltxt
  | ledf
  | eci (v : Option Byte)
  | rsv242 (w : Byte)
  -- groups of C40, Text and X12, formats P and U (R64, R65)
  | pairShortC40
  | unlC40
  | rsvPair0C40
  | triC40 (a b c : Nat)
  | rsvPairHiC40 (num : Nat)
  | pairShortText
  | unlText
  | rsvPair0Text
  | triText (a b c : Nat)
  | rsvPairHiText (num : Nat)
  | pairShortX12
  | unlX12
  | rsvPair0X12
  | triX12 (a b c : Nat)
  | rsvPairHiX12 (num : Nat)
  -- values inside a C40 pair (R164 to R174)
  | sh1C40
  | sh2C40
  | sh3C40
  | vSpC40
  | vDigitC40 (v : Nat)
  | vUpperC40 (v : Nat)
  | vS1C40 (v : Nat)
  | rsvS1C40 (v : Nat)
  | vS2aC40 (v : Nat)
  | vS2bC40 (v : Nat)
  | vS2cC40 (v : Nat)
  | vS2fnc1C40
  | rsvS2aC40 (v : Nat)
  | vS2ushC40
  | rsvS2bC40 (v : Nat)
  | vS3C40 (v : Nat)
  | rsvS3C40 (v : Nat)
  -- values inside a Text pair (R164 to R174)
  | sh1Text
  | sh2Text
  | sh3Text
  | vSpText
  | vDigitText (v : Nat)
  | vLowerText (v : Nat)
  | vS1Text (v : Nat)
  | rsvS1Text (v : Nat)
  | vS2aText (v : Nat)
  | vS2bText (v : Nat)
  | vS2cText (v : Nat)
  | vS2fnc1Text
  | rsvS2aText (v : Nat)
  | vS2ushText
  | rsvS2bText (v : Nat)
  | vS3graveText
  | vS3upperText (v : Nat)
  | vS3highText (v : Nat)
  | rsvS3Text (v : Nat)
  -- values inside an X12 pair (R176)
  | xCr
  | xStar
  | xGt
  | xSp
  | xDigit (v : Nat)
  | xUpper (v : Nat)
  -- EDIFACT, format E (R66), and the values inside a triple (R194, R195)
  | edfShort
  | edf (v0 v1 v2 v3 : Nat)
  | eLow (v : Nat)
  | eUnl (j : Nat)
  | eHigh (v : Nat)
  -- Base256, format B (R67): the plain length byte or bytes
  | b256L0
  | b256L1 (d0 : Byte)
  | b256L2 (d0 : Byte) (d1 : Option Byte)
  deriving DecidableEq, Repr

end Sys2Proof
end

