-- ==== Sys2Proof/Machine/Dispatch.lean ====
section
/-! DEFINITION. The meaning of every instruction, one arm for each row of the opcode table. -/

namespace Sys2Proof.Machine

open Sys2Proof

def exec (i : Instr) (s : State) : Host.Outcome State Fault Refusal :=
  match i with
  | .load dw ew cells => Sys2Proof.Machine.execLoad dw ew cells s
  | .start => Sys2Proof.Machine.execStart s
  | .rsSynd => Sys2Proof.Machine.execRsSynd s
  | .rsZero => Sys2Proof.Machine.execRsZero s
  | .rsLoc => Sys2Proof.Machine.execRsLoc s
  | .rsChien => Sys2Proof.Machine.execRsChien s
  | .rsCount => Sys2Proof.Machine.execRsCount s
  | .rsMag => Sys2Proof.Machine.execRsMag s
  | .rsCorr => Sys2Proof.Machine.execRsCorr s
  | .rsEnd => Sys2Proof.Machine.execRsEnd s
  | .seqBranch => Sys2Proof.Machine.execSeqBranch s
  | .plInit => Sys2Proof.Machine.execPlInit s
  | .plLoop => Sys2Proof.Machine.execPlLoop s
  | .plDispatch => Sys2Proof.Machine.execPlDispatch s
  | .plEnd => Sys2Proof.Machine.execPlEnd s
  | .seqDone => Sys2Proof.Machine.execSeqDone s
  | .rsv0 => Sys2Proof.Machine.execRsv0 s
  | .asc b => Sys2Proof.Machine.execAsc b s
  | .pad => Sys2Proof.Machine.execPad s
  | .dig dd => Sys2Proof.Machine.execDig dd s
  | .lc40 => Sys2Proof.Machine.execLc40 s
  | .lb256 => Sys2Proof.Machine.execLb256 s
  | .fnc1 => Sys2Proof.Machine.execFnc1 s
  | .rsv233 w => Sys2Proof.Machine.execRsv233 w s
  | .ush => Sys2Proof.Machine.execUsh s
  | .mac05 => Sys2Proof.Machine.execMac05 s
  | .mac06 => Sys2Proof.Machine.execMac06 s
  | .rsv236 w => Sys2Proof.Machine.execRsv236 w s
  | .lx12 => Sys2Proof.Machine.execLx12 s
  | .ltxt => Sys2Proof.Machine.execLtxt s
  | .ledf => Sys2Proof.Machine.execLedf s
  | .eci v => Sys2Proof.Machine.execEci v s
  | .rsv242 w => Sys2Proof.Machine.execRsv242 w s
  | .pairShortC40 => Sys2Proof.Machine.execPairShortC40 s
  | .unlC40 => Sys2Proof.Machine.execUnlC40 s
  | .rsvPair0C40 => Sys2Proof.Machine.execRsvPair0C40 s
  | .triC40 a b c => Sys2Proof.Machine.execTriC40 a b c s
  | .rsvPairHiC40 num => Sys2Proof.Machine.execRsvPairHiC40 num s
  | .pairShortText => Sys2Proof.Machine.execPairShortText s
  | .unlText => Sys2Proof.Machine.execUnlText s
  | .rsvPair0Text => Sys2Proof.Machine.execRsvPair0Text s
  | .triText a b c => Sys2Proof.Machine.execTriText a b c s
  | .rsvPairHiText num => Sys2Proof.Machine.execRsvPairHiText num s
  | .pairShortX12 => Sys2Proof.Machine.execPairShortX12 s
  | .unlX12 => Sys2Proof.Machine.execUnlX12 s
  | .rsvPair0X12 => Sys2Proof.Machine.execRsvPair0X12 s
  | .triX12 a b c => Sys2Proof.Machine.execTriX12 a b c s
  | .rsvPairHiX12 num => Sys2Proof.Machine.execRsvPairHiX12 num s
  | .sh1C40 => Sys2Proof.Machine.execSh1C40 s
  | .sh2C40 => Sys2Proof.Machine.execSh2C40 s
  | .sh3C40 => Sys2Proof.Machine.execSh3C40 s
  | .vSpC40 => Sys2Proof.Machine.execVSpC40 s
  | .vDigitC40 v => Sys2Proof.Machine.execVDigitC40 v s
  | .vUpperC40 v => Sys2Proof.Machine.execVUpperC40 v s
  | .vS1C40 v => Sys2Proof.Machine.execVS1C40 v s
  | .rsvS1C40 v => Sys2Proof.Machine.execRsvS1C40 v s
  | .vS2aC40 v => Sys2Proof.Machine.execVS2aC40 v s
  | .vS2bC40 v => Sys2Proof.Machine.execVS2bC40 v s
  | .vS2cC40 v => Sys2Proof.Machine.execVS2cC40 v s
  | .vS2fnc1C40 => Sys2Proof.Machine.execVS2fnc1C40 s
  | .rsvS2aC40 v => Sys2Proof.Machine.execRsvS2aC40 v s
  | .vS2ushC40 => Sys2Proof.Machine.execVS2ushC40 s
  | .rsvS2bC40 v => Sys2Proof.Machine.execRsvS2bC40 v s
  | .vS3C40 v => Sys2Proof.Machine.execVS3C40 v s
  | .rsvS3C40 v => Sys2Proof.Machine.execRsvS3C40 v s
  | .sh1Text => Sys2Proof.Machine.execSh1Text s
  | .sh2Text => Sys2Proof.Machine.execSh2Text s
  | .sh3Text => Sys2Proof.Machine.execSh3Text s
  | .vSpText => Sys2Proof.Machine.execVSpText s
  | .vDigitText v => Sys2Proof.Machine.execVDigitText v s
  | .vLowerText v => Sys2Proof.Machine.execVLowerText v s
  | .vS1Text v => Sys2Proof.Machine.execVS1Text v s
  | .rsvS1Text v => Sys2Proof.Machine.execRsvS1Text v s
  | .vS2aText v => Sys2Proof.Machine.execVS2aText v s
  | .vS2bText v => Sys2Proof.Machine.execVS2bText v s
  | .vS2cText v => Sys2Proof.Machine.execVS2cText v s
  | .vS2fnc1Text => Sys2Proof.Machine.execVS2fnc1Text s
  | .rsvS2aText v => Sys2Proof.Machine.execRsvS2aText v s
  | .vS2ushText => Sys2Proof.Machine.execVS2ushText s
  | .rsvS2bText v => Sys2Proof.Machine.execRsvS2bText v s
  | .vS3graveText => Sys2Proof.Machine.execVS3graveText s
  | .vS3upperText v => Sys2Proof.Machine.execVS3upperText v s
  | .vS3highText v => Sys2Proof.Machine.execVS3highText v s
  | .rsvS3Text v => Sys2Proof.Machine.execRsvS3Text v s
  | .xCr => Sys2Proof.Machine.execXCr s
  | .xStar => Sys2Proof.Machine.execXStar s
  | .xGt => Sys2Proof.Machine.execXGt s
  | .xSp => Sys2Proof.Machine.execXSp s
  | .xDigit v => Sys2Proof.Machine.execXDigit v s
  | .xUpper v => Sys2Proof.Machine.execXUpper v s
  | .edfShort => Sys2Proof.Machine.execEdfShort s
  | .edf v0 v1 v2 v3 => Sys2Proof.Machine.execEdf v0 v1 v2 v3 s
  | .eLow v => Sys2Proof.Machine.execELow v s
  | .eUnl j => Sys2Proof.Machine.execEUnl j s
  | .eHigh v => Sys2Proof.Machine.execEHigh v s
  | .b256L0 => Sys2Proof.Machine.execB256L0 s
  | .b256L1 d0 => Sys2Proof.Machine.execB256L1 d0 s
  | .b256L2 d0 d1 => Sys2Proof.Machine.execB256L2 d0 d1 s

end Sys2Proof.Machine
end

