-- ==== Sys2Proof/WellFormed.lean ====
section
/-! DEFINITION. The operand ranges of the instructions: the `lo .. hi` of each row of `spec/opcode_table.json` and
the ranges of R61 to R69. -/

namespace Sys2Proof

/-- `lo <= v <= hi`. -/
abbrev between (lo hi v : Nat) : Bool := decide (lo ≤ v) && decide (v ≤ hi)

/-- A LOAD that names both `DW` and `EW` names only cells of `CW[0 .. DW+EW-1]` (R80, R40). -/
def wfLoad (dw ew : Option Nat) (cells : List (Nat × Byte)) : Bool :=
  match dw, ew with
  | some d, some e => cells.all fun c => decide (c.1 < d + e)
  | _, _ => true

/-- An instruction whose operands lie in the ranges of its row. -/
def Instr.wf : Instr → Bool
  | .load dw ew cells => wfLoad dw ew cells
  | .start => true
  | .rsSynd => true
  | .rsZero => true
  | .rsLoc => true
  | .rsChien => true
  | .rsCount => true
  | .rsMag => true
  | .rsCorr => true
  | .rsEnd => true
  | .seqBranch => true
  | .plInit => true
  | .plLoop => true
  | .plDispatch => true
  | .plEnd => true
  | .seqDone => true
  | .rsv0 => true
  | .asc b => between 0 127 b
  | .pad => true
  | .dig dd => between 0 99 dd
  | .lc40 => true
  | .lb256 => true
  | .fnc1 => true
  | .rsv233 w => between 233 234 w.toNat
  | .ush => true
  | .mac05 => true
  | .mac06 => true
  | .rsv236 w => between 236 237 w.toNat
  | .lx12 => true
  | .ltxt => true
  | .ledf => true
  | .eci _ => true
  | .rsv242 w => between 242 255 w.toNat
  | .pairShortC40 => true
  | .unlC40 => true
  | .rsvPair0C40 => true
  | .triC40 a b c => between 0 39 a && between 0 39 b && between 0 39 c
  | .rsvPairHiC40 num => between 64001 65535 num && decide (num / 256 ≠ 254)
  | .pairShortText => true
  | .unlText => true
  | .rsvPair0Text => true
  | .triText a b c => between 0 39 a && between 0 39 b && between 0 39 c
  | .rsvPairHiText num => between 64001 65535 num && decide (num / 256 ≠ 254)
  | .pairShortX12 => true
  | .unlX12 => true
  | .rsvPair0X12 => true
  | .triX12 a b c => between 0 39 a && between 0 39 b && between 0 39 c
  | .rsvPairHiX12 num => between 64001 65535 num && decide (num / 256 ≠ 254)
  | .sh1C40 => true
  | .sh2C40 => true
  | .sh3C40 => true
  | .vSpC40 => true
  | .vDigitC40 v => between 4 13 v
  | .vUpperC40 v => between 14 39 v
  | .vS1C40 v => between 0 31 v
  | .rsvS1C40 v => between 32 39 v
  | .vS2aC40 v => between 0 14 v
  | .vS2bC40 v => between 15 21 v
  | .vS2cC40 v => between 22 26 v
  | .vS2fnc1C40 => true
  | .rsvS2aC40 v => between 28 29 v
  | .vS2ushC40 => true
  | .rsvS2bC40 v => between 31 39 v
  | .vS3C40 v => between 0 31 v
  | .rsvS3C40 v => between 32 39 v
  | .sh1Text => true
  | .sh2Text => true
  | .sh3Text => true
  | .vSpText => true
  | .vDigitText v => between 4 13 v
  | .vLowerText v => between 14 39 v
  | .vS1Text v => between 0 31 v
  | .rsvS1Text v => between 32 39 v
  | .vS2aText v => between 0 14 v
  | .vS2bText v => between 15 21 v
  | .vS2cText v => between 22 26 v
  | .vS2fnc1Text => true
  | .rsvS2aText v => between 28 29 v
  | .vS2ushText => true
  | .rsvS2bText v => between 31 39 v
  | .vS3graveText => true
  | .vS3upperText v => between 1 26 v
  | .vS3highText v => between 27 31 v
  | .rsvS3Text v => between 32 39 v
  | .xCr => true
  | .xStar => true
  | .xGt => true
  | .xSp => true
  | .xDigit v => between 4 13 v
  | .xUpper v => between 14 39 v
  | .edfShort => true
  | .edf v0 v1 v2 v3 => between 0 63 v0 && between 0 63 v1 && between 0 63 v2 && between 0 63 v3
  | .eLow v => between 0 30 v
  | .eUnl j => between 0 3 j
  | .eHigh v => between 32 63 v
  | .b256L0 => true
  | .b256L1 d0 => between 1 249 d0.toNat
  | .b256L2 d0 _ => between 250 255 d0.toNat

end Sys2Proof
end

