-- ==== Sys2Proof/Decode.lean ====
section
/-! DEFINITION. The decoder of codeword groups (R60 to R67, R70, R160, R190, R202), the decoder of the values inside a
pair or triple (R69, R164, R195), the encoders of both (R68, R72, R73), and the opcode table's words (R74). -/

namespace Sys2Proof

open Sys2Proof.Machine

/-- Why no instruction is decoded. -/
inductive Reject
  /-- No codeword is left (`IDX >= DW`): the loop of R131 executes no group here. -/
  | noCodeword
  /-- Fewer codewords were given than the data region has left. -/
  | truncated
  /-- The value is not one of `0 .. 39` (pair) or `0 .. 63` (triple). -/
  | valueRange
  /-- The mode has no values of this kind. -/
  | noSuchMode
  deriving DecidableEq, Repr

/-- ASCII mode: the codeword `w` at index `idx`, `next` the codeword after it where there is one (R61 to R63). The
macro prefix is recognised at index 0 only. -/
def decodeAscii (idx : Nat) (w : Byte) (next : Option Byte) : Instr :=
  if w.toNat = 0 then .rsv0
  else if w.toNat ≤ 128 then .asc (w.toNat - 1)
  else if w.toNat = 129 then .pad
  else if w.toNat ≤ 229 then .dig (w.toNat - 130)
  else if w.toNat = 230 then .lc40
  else if w.toNat = 231 then .lb256
  else if w.toNat = 232 then .fnc1
  else if w.toNat ≤ 234 then .rsv233 w
  else if w.toNat = 235 then .ush
  else if w.toNat = 236 then (if idx = 0 then .mac05 else .rsv236 w)
  else if w.toNat = 237 then (if idx = 0 then .mac06 else .rsv236 w)
  else if w.toNat = 238 then .lx12
  else if w.toNat = 239 then .ltxt
  else if w.toNat = 240 then .ledf
  else if w.toNat = 241 then .eci next
  else .rsv242 w

/-- The group forms that C40, Text and X12 share. -/
inductive PairForm
  | short
  | unl
  | pair0
  | tri (a b c : Nat)
  | pairHi (num : Nat)
  deriving DecidableEq, Repr

/-- R160: the short test, the unlatch test and the pair, in this order; a pair is split by its number (R163, R175). -/
def decodePairForm (w1 : Byte) (next : Option Byte) : PairForm :=
  match next with
  | none => .short
  | some w2 =>
    if w1.toNat = 254 then .unl
    else if pairNum w1 w2 = 0 then .pair0
    else if pairNum w1 w2 ≤ 64000 then
      .tri (pairA (pairNum w1 w2)) (pairB (pairNum w1 w2)) (pairC (pairNum w1 w2))
    else .pairHi (pairNum w1 w2)

/-- The rows of C40. -/
def PairForm.c40 : PairForm → Instr
  | .short => .pairShortC40
  | .unl => .unlC40
  | .pair0 => .rsvPair0C40
  | .tri a b c => .triC40 a b c
  | .pairHi num => .rsvPairHiC40 num

/-- The rows of Text. -/
def PairForm.text : PairForm → Instr
  | .short => .pairShortText
  | .unl => .unlText
  | .pair0 => .rsvPair0Text
  | .tri a b c => .triText a b c
  | .pairHi num => .rsvPairHiText num

/-- The rows of X12. -/
def PairForm.x12 : PairForm → Instr
  | .short => .pairShortX12
  | .unl => .unlX12
  | .pair0 => .rsvPair0X12
  | .tri a b c => .triX12 a b c
  | .pairHi num => .rsvPairHiX12 num

/-- EDIFACT: fewer than three codewords left, or a triple (R190, R192). -/
def decodeEdifact (w1 : Byte) (rest : List Byte) : Instr :=
  match rest with
  | w2 :: w3 :: _ => .edf (edfV0 w1) (edfV1 w1 w2) (edfV2 w2 w3) (edfV3 w3)
  | _ => .edfShort

/-- Base256: the plain first length byte and, for a two-byte length, the second where there is one (R202, R203). -/
def decodeBase256 (idx : Nat) (w : Byte) (next : Option Byte) : Instr :=
  if (unrand w idx).toNat = 0 then .b256L0
  else if (unrand w idx).toNat ≤ 249 then .b256L1 (unrand w idx)
  else .b256L2 (unrand w idx) (next.map fun d => unrand d (idx + 1))

/-- The group at index `idx` in mode `m`, `left = DW - IDX` codewords being left, of which `ws` are the first ones:
all of them, or at least three (R60, R133). -/
def decodeGroup (m : Mode) (idx left : Nat) (ws : List Byte) : Except Reject Instr :=
  if left = 0 then .error .noCodeword
  else if ws.length < min left 3 then .error .truncated
  else
    match ws.take left with
    | [] => .error .noCodeword
    | w :: rest =>
      match m with
      | .ascii => .ok (decodeAscii idx w rest.head?)
      | .c40 => .ok (decodePairForm w rest.head?).c40
      | .text => .ok (decodePairForm w rest.head?).text
      | .x12 => .ok (decodePairForm w rest.head?).x12
      | .edifact => .ok (decodeEdifact w rest)
      | .base256 => .ok (decodeBase256 idx w rest.head?)

/-! ## Values inside a pair or triple -/

/-- A C40 value under shift set `ss` (R164, R69). -/
def decodeC40Value (ss : ShiftSet) (v : Nat) : Instr :=
  match ss with
  | .set0 =>
    if v = 0 then .sh1C40
    else if v = 1 then .sh2C40
    else if v = 2 then .sh3C40
    else if v = 3 then .vSpC40
    else if v ≤ 13 then .vDigitC40 v
    else .vUpperC40 v
  | .set1 => if v ≤ 31 then .vS1C40 v else .rsvS1C40 v
  | .set2 =>
    if v ≤ 14 then .vS2aC40 v
    else if v ≤ 21 then .vS2bC40 v
    else if v ≤ 26 then .vS2cC40 v
    else if v = 27 then .vS2fnc1C40
    else if v ≤ 29 then .rsvS2aC40 v
    else if v = 30 then .vS2ushC40
    else .rsvS2bC40 v
  | .set3 => if v ≤ 31 then .vS3C40 v else .rsvS3C40 v

/-- A Text value under shift set `ss` (R164, R69). -/
def decodeTextValue (ss : ShiftSet) (v : Nat) : Instr :=
  match ss with
  | .set0 =>
    if v = 0 then .sh1Text
    else if v = 1 then .sh2Text
    else if v = 2 then .sh3Text
    else if v = 3 then .vSpText
    else if v ≤ 13 then .vDigitText v
    else .vLowerText v
  | .set1 => if v ≤ 31 then .vS1Text v else .rsvS1Text v
  | .set2 =>
    if v ≤ 14 then .vS2aText v
    else if v ≤ 21 then .vS2bText v
    else if v ≤ 26 then .vS2cText v
    else if v = 27 then .vS2fnc1Text
    else if v ≤ 29 then .rsvS2aText v
    else if v = 30 then .vS2ushText
    else .rsvS2bText v
  | .set3 =>
    if v = 0 then .vS3graveText
    else if v ≤ 26 then .vS3upperText v
    else if v ≤ 31 then .vS3highText v
    else .rsvS3Text v

/-- An X12 value (R176). -/
def decodeX12Value (v : Nat) : Instr :=
  if v = 0 then .xCr
  else if v = 1 then .xStar
  else if v = 2 then .xGt
  else if v = 3 then .xSp
  else if v ≤ 13 then .xDigit v
  else .xUpper v

/-- Value `v` of a pair in mode `m` with shift set `ss` (R164). -/
def decodeValue (m : Mode) (ss : ShiftSet) (v : Nat) : Except Reject Instr :=
  if 39 < v then .error .valueRange
  else
    match m with
    | .c40 => .ok (decodeC40Value ss v)
    | .text => .ok (decodeTextValue ss v)
    | .x12 => .ok (decodeX12Value v)
    | _ => .error .noSuchMode

/-- Value number `j` of an EDIFACT triple (R194, R195). -/
def decodeEdfValue (j v : Nat) : Except Reject Instr :=
  if 63 < v then .error .valueRange
  else if v ≤ 30 then .ok (.eLow v)
  else if v = 31 then .ok (.eUnl j)
  else .ok (.eHigh v)

/-! ## The words of the opcode table -/

/-- The codewords of a table word (log 11): one codeword for a word of one byte; for a wider word the table's number
has the first codeword in its most significant byte (`256 * w1 + w2`, R74). Codewords after them are 0. -/
def tableBytes (nbits w : Nat) : List Byte :=
  if nbits ≤ 8 then [byte w, 0, 0]
  else if nbits ≤ 16 then [byte (w / 256), byte w, 0]
  else [byte (w / 65536), byte (w / 256), byte w]

/-- The mode in which a table word is read (log 11): a one-codeword number in ASCII, a pair number in C40, three
codewords in EDIFACT. -/
def tableMode (nbits : Nat) : Mode :=
  if nbits ≤ 8 then .ascii else if nbits ≤ 16 then .c40 else .edifact

/-- The instruction the decoder reads from a table word, stored at index 0 with two zero codewords' room (log 11). -/
def decodeTableWord (nbits w : Nat) : Option Instr :=
  if 24 < nbits then none
  else
    match decodeGroup (tableMode nbits) 0 3 (tableBytes nbits w) with
    | .ok i => some i
    | .error _ => none

/-! ## The encoder -/

/-- The two codewords of a pair number (R68 (c)). -/
def encodePair (num : Nat) : List Byte := [pairHi num, pairLo num]

/-- The codewords of a group at index `idx` (R72, R73): of a Base256 field its length byte or bytes; none for a short
group, which consumes nothing, for a value row, which is part of a pair or triple, and for a row that is not encoded. -/
def encode (idx : Nat) : Instr → List Byte
  | .rsv0 => [0]
  | .asc b => [byte (b + 1)]
  | .pad => [129]
  | .dig dd => [byte (130 + dd)]
  | .lc40 => [230]
  | .lb256 => [231]
  | .fnc1 => [232]
  | .rsv233 w => [w]
  | .ush => [235]
  | .mac05 => [236]
  | .mac06 => [237]
  | .rsv236 w => [w]
  | .lx12 => [238]
  | .ltxt => [239]
  | .ledf => [240]
  | .eci v => 241 :: v.toList
  | .rsv242 w => [w]
  | .unlC40 | .unlText | .unlX12 => [254]
  | .rsvPair0C40 | .rsvPair0Text | .rsvPair0X12 => [0, 0]
  | .triC40 a b c | .triText a b c | .triX12 a b c => encodePair (pairOf a b c)
  | .rsvPairHiC40 num | .rsvPairHiText num | .rsvPairHiX12 num => encodePair num
  | .edf v0 v1 v2 v3 => edfWords v0 v1 v2 v3
  | .b256L0 => [randomize 0 idx]
  | .b256L1 d0 => [randomize d0 idx]
  | .b256L2 d0 d1 => randomize d0 idx :: (d1.map fun d => randomize d (idx + 1)).toList
  | _ => []

/-- The number a value row is selected by, inside a pair or triple (R69, R194, R195). -/
def encodeValue : Instr → Option Nat
  | .sh1C40 | .sh1Text | .xCr | .vS3graveText => some 0
  | .sh2C40 | .sh2Text | .xStar => some 1
  | .sh3C40 | .sh3Text | .xGt => some 2
  | .vSpC40 | .vSpText | .xSp => some 3
  | .vDigitC40 v | .vDigitText v | .xDigit v => some v
  | .vUpperC40 v | .vLowerText v | .xUpper v => some v
  | .vS1C40 v | .vS1Text v | .rsvS1C40 v | .rsvS1Text v => some v
  | .vS2aC40 v | .vS2aText v | .vS2bC40 v | .vS2bText v | .vS2cC40 v | .vS2cText v => some v
  | .vS2fnc1C40 | .vS2fnc1Text => some 27
  | .rsvS2aC40 v | .rsvS2aText v | .rsvS2bC40 v | .rsvS2bText v => some v
  | .vS2ushC40 | .vS2ushText => some 30
  | .vS3C40 v | .rsvS3C40 v | .vS3upperText v | .vS3highText v | .rsvS3Text v => some v
  | .eLow v | .eHigh v => some v
  | .eUnl _ => some 31
  | _ => none

/-! ## Where a row is selected -/

/-- The mode in which a row is selected: `fields.mode` of the table (R74); none for the rows that are not encoded. -/
def Instr.mode : Instr → Option Mode
  | .load _ _ _ | .start | .rsSynd | .rsZero | .rsLoc | .rsChien | .rsCount | .rsMag | .rsCorr | .rsEnd
  | .seqBranch | .plInit | .plLoop | .plDispatch | .plEnd | .seqDone => none
  | .rsv0 | .asc _ | .pad | .dig _ | .lc40 | .lb256 | .fnc1 | .rsv233 _ | .ush | .mac05 | .mac06 | .rsv236 _
  | .lx12 | .ltxt | .ledf | .eci _ | .rsv242 _ => some .ascii
  | .pairShortC40 | .unlC40 | .rsvPair0C40 | .triC40 _ _ _ | .rsvPairHiC40 _ | .sh1C40 | .sh2C40 | .sh3C40
  | .vSpC40 | .vDigitC40 _ | .vUpperC40 _ | .vS1C40 _ | .rsvS1C40 _ | .vS2aC40 _ | .vS2bC40 _ | .vS2cC40 _
  | .vS2fnc1C40 | .rsvS2aC40 _ | .vS2ushC40 | .rsvS2bC40 _ | .vS3C40 _ | .rsvS3C40 _ => some .c40
  | .pairShortText | .unlText | .rsvPair0Text | .triText _ _ _ | .rsvPairHiText _ | .sh1Text | .sh2Text
  | .sh3Text | .vSpText | .vDigitText _ | .vLowerText _ | .vS1Text _ | .rsvS1Text _ | .vS2aText _ | .vS2bText _
  | .vS2cText _ | .vS2fnc1Text | .rsvS2aText _ | .vS2ushText | .rsvS2bText _ | .vS3graveText | .vS3upperText _
  | .vS3highText _ | .rsvS3Text _ => some .text
  | .pairShortX12 | .unlX12 | .rsvPair0X12 | .triX12 _ _ _ | .rsvPairHiX12 _ | .xCr | .xStar | .xGt | .xSp
  | .xDigit _ | .xUpper _ => some .x12
  | .edfShort | .edf _ _ _ _ | .eLow _ | .eUnl _ | .eHigh _ => some .edifact
  | .b256L0 | .b256L1 _ | .b256L2 _ _ => some .base256

/-- The shift set under which a C40 or Text value row is selected: `fields.sset` of the table (R74). -/
def Instr.shiftSet : Instr → Option ShiftSet
  | .sh1C40 | .sh2C40 | .sh3C40 | .vSpC40 | .vDigitC40 _ | .vUpperC40 _ | .sh1Text | .sh2Text | .sh3Text
  | .vSpText | .vDigitText _ | .vLowerText _ => some .set0
  | .vS1C40 _ | .rsvS1C40 _ | .vS1Text _ | .rsvS1Text _ => some .set1
  | .vS2aC40 _ | .vS2bC40 _ | .vS2cC40 _ | .vS2fnc1C40 | .rsvS2aC40 _ | .vS2ushC40 | .rsvS2bC40 _ | .vS2aText _
  | .vS2bText _ | .vS2cText _ | .vS2fnc1Text | .rsvS2aText _ | .vS2ushText | .rsvS2bText _ => some .set2
  | .vS3C40 _ | .rsvS3C40 _ | .vS3graveText | .vS3upperText _ | .vS3highText _ | .rsvS3Text _ => some .set3
  | _ => none

/-- A row that is a group of its own (R60, R74): neither a sequencer row nor a value row. -/
def Instr.isGroup (i : Instr) : Bool := i.mode.isSome && (encodeValue i).isNone

/-- What the codewords from `IDX` on must be for the group to be `i` (R60, R74): `ws` are all the data codewords left,
`idx` is `IDX`. The rows that are told apart by the number of codewords left, or by `IDX`, say so; every other row
asks only that its own codewords come first. -/
def Instr.fits (idx : Nat) (ws : List Byte) : Instr → Bool
  | .pairShortC40 | .pairShortText | .pairShortX12 => ws.length == 1
  | .unlC40 | .unlText | .unlX12 => decide (2 ≤ ws.length) && ws.head? == some 254
  | .edfShort => ws.length == 1 || ws.length == 2
  | .mac05 => idx == 0 && ws.head? == some 236
  | .mac06 => idx == 0 && ws.head? == some 237
  | .rsv236 w => idx != 0 && ws.head? == some w
  | .eci v => ws.head? == some 241 && ws.tail.head? == v
  | .b256L2 d0 d1 => ws.head? == some (randomize d0 idx) && (ws.tail.head?.map fun d => unrand d (idx + 1)) == d1
  | i => decide (encode idx i ≠ []) && (encode idx i).isPrefixOf ws

end Sys2Proof
end

