-- ==== Sys2Proof/Machine/Fetch.lean ====
section
/-! DEFINITION. What the next step runs: the host's event, or the micro-operation at the sequencer position, or the
codeword group at `IDX` (R82 to R85, R110, R130 to R133, R230, R231). -/

namespace Sys2Proof.Machine

open Sys2Proof

/-- The fault of a fetch that decodes no group: with `IDX < DW` and its codewords read there is none. -/
def fetchFault (s : State) (r : Reject) : Fault :=
  match r with
  | .noCodeword | .truncated | .valueRange | .noSuchMode => .noGroup s.idx

/-- The group at `IDX` (R131, R133): `DW - IDX` codewords are left, of which at most three are read to decode it. -/
def fetchGroup (s : State) : Except Fault Instr :=
  match readRun s.idx (min (s.dw - s.idx) 3) s with
  | .error f => .error f
  | .ok ws =>
    match decodeGroup s.mode s.idx (s.dw - s.idx) ws with
    | .error r => .error (fetchFault s r)
    | .ok i => .ok i

/-- The instruction at the sequencer position. -/
def fetch (s : State) : Except Fault Instr :=
  match s.upc with
  | .rsSynd => .ok .rsSynd
  | .rsZero => .ok .rsZero
  | .rsLoc => .ok .rsLoc
  | .rsChien => .ok .rsChien
  | .rsCount => .ok .rsCount
  | .rsMag => .ok .rsMag
  | .rsCorr => .ok .rsCorr
  | .rsEnd => .ok .rsEnd
  | .seqBranch => .ok .seqBranch
  | .plInit => .ok .plInit
  | .plLoop => .ok .plLoop
  | .plDispatch => .ok .plDispatch
  | .group => fetchGroup s
  | .plEnd => .ok .plEnd
  | .seqDone => .ok .seqDone

/-- What the next step is. -/
inductive Turn
  /-- The step is this state: a reset, or a block with nothing to do. -/
  | settled (s : State)
  /-- The step runs this instruction in this state. -/
  | run (i : Instr) (s : State)
  /-- No instruction could be fetched. -/
  | stop (f : Fault)
  deriving DecidableEq, Repr

/-- The block's own turn: in IDLE and DONE it "does nothing until the host issues START" (R230), and what is valid at
DONE stays (R85). -/
def blockTurn (s : State) : Turn :=
  if s.busy then
    match fetch s with
    | .ok i => .run i s
    | .error f => .stop f
  else .settled s

/-- The next step (log 5): a reset acts at once (R230; log 6); LOAD and START wait until the block is not busy (R231,
R237). -/
def nextTurn (s : State) : Turn :=
  match s.host with
  | [] => blockTurn s
  | .reset :: q => .settled (withHost q State.reset)
  | .wait :: q => blockTurn (withHost q s)
  | .load dw ew cells :: q => if s.busy then blockTurn s else .run (.load dw ew cells) (withHost q s)
  | .start :: q => if s.busy then blockTurn s else .run .start (withHost q s)

end Sys2Proof.Machine
end

