-- ==== Sys2Proof/Machine/Step.lean ====
section
/-! DEFINITION. One step: one host event, one micro-operation or one codeword group (R88). -/

namespace Sys2Proof.Machine

open Sys2Proof

/-- One step of the machine. -/
def step (s : State) : Host.Outcome State Fault Refusal :=
  match nextTurn s with
  | .settled t => .next t
  | .run i t => exec i t
  | .stop f => .fault f

/-- `s` with the codewords of a table word stored where the next step fetches a group (logs 10, 11): in the payload
phase, at index 0 of a data region of three codewords, in the mode the word is read in, with no host event before it. -/
def State.withFetchWord (s : State) (nbits w : Nat) : State :=
  { s with
    host := []
    phase := .payload
    upc := .group
    mode := tableMode nbits
    idx := 0
    dw := 3
    cw := (((s.cw.write 0 ((tableBytes nbits w).getD 0 0)).write 1 ((tableBytes nbits w).getD 1 0)).write 2
      ((tableBytes nbits w).getD 2 0)) }

end Sys2Proof.Machine
end

