-- ==== Sys2Proof/Safety.lean ====
section
/-! DEFINITION. The terms in which the statements speak: what a step keeps and appends, the invariant of a run, and
what a transaction's input and a codeword of the code are. -/

namespace Sys2Proof.Machine

open Sys2Proof

/-! ## What an instruction does to `OUT` and `CW` -/

/-- From `s` to `t` exactly the bytes `bs` were emitted, in order (R45): they stand from `OLEN` on, and every other
cell of `OUT` reads as before. -/
def Appends (s t : State) (bs : List Byte) : Prop :=
  t.olen = s.olen + bs.length ∧
  (∀ k, k < bs.length → t.out.read (s.olen + k) = bs[k]?) ∧
  ∀ a, (a < s.olen ∨ s.olen + bs.length ≤ a) → t.out.read a = s.out.read a

/-- The byte `emit_us(b)` emits (R141). -/
def usByte (s : State) (b : Nat) : Byte := if s.ush then byte (b + 128) else byte b

/-- The character of a basic value 3 .. 39 of C40 (letters from 0x41) or Text (from 0x61): R166 to R168. -/
def basicCode (letters v : Nat) : Nat :=
  if v = 3 then 0x20 else if v ≤ 13 then 0x30 + (v - 4) else letters + (v - 14)

/-- The character of an X12 value (R176). -/
def x12Code (v : Nat) : Nat :=
  if v = 0 then 0x0D
  else if v = 1 then 0x2A
  else if v = 2 then 0x3E
  else if v = 3 then 0x20
  else if v ≤ 13 then 0x30 + (v - 4)
  else 0x41 + (v - 14)

/-- `CW` holds the codewords `ws` from index `i` on. -/
def Holds (s : State) (i : Nat) (ws : List Byte) : Prop :=
  ∀ k, k < ws.length → s.cw.read (i + k) = ws[k]?

/-- The state a raised INVALID_PAYLOAD leaves (R216): `PHASE`, `RESULT`, `CAUSE`, `FIDX` and `OLEN` as the rule says and
no cell of `OUT` with a value; every other element as in `s`. -/
def payloadFault (c : Cause) (s : State) : State :=
  { s with phase := .done, result := .payloadFail, cause := c, fidx := s.idx, olen := 0, out := [] }

/-- The row names a reserved value, whose execution raises INVALID_PAYLOAD (R174). -/
def reservedRow : Instr → Bool
  | .rsvS1C40 _ | .rsvS2aC40 _ | .rsvS2bC40 _ | .rsvS3C40 _ | .rsvS1Text _ | .rsvS2aText _ | .rsvS2bText _
  | .rsvS3Text _ => true
  | _ => false

/-- Run the values of a pair one by one, each as the row that R164 selects under the `SSET` the one before left, up to
the first reserved row: the state reached, and whether a reserved row ended the run. -/
def runRows (m : Mode) : List Nat → State → Option (State × Bool)
  | [], s => some (s, false)
  | v :: vs, s =>
    match decodeValue m s.sset v with
    | .error _ => none
    | .ok i =>
      match exec i s with
      | .next u => if reservedRow i then some (u, true) else runRows m vs u
      | _ => none

/-- The host leaves the next step to the block: neither a reset nor a `wait` stands first in its list. -/
def State.hostQuiet (s : State) : Bool :=
  match s.host with
  | .reset :: _ | .wait :: _ => false
  | _ => true

/-- `x` solves the `m` by `m` system `A x = b` (R100). -/
def Solves (m : Nat) (a : List (List Byte)) (b x : List Byte) : Prop :=
  x.length = m ∧ ∀ i, i < m → xorSum m (fun k => gmul (entry (matRow a i) k) (x.getD k 0)) = b.getD i 0

/-- Column `k` of `a` is a combination of the columns to its left: it has no pivot in the reduced row echelon form
(R100). -/
def FreeColumn (m : Nat) (a : List (List Byte)) (k : Nat) : Prop :=
  ∃ f : Nat → Byte, ∀ i, i < m →
    entry (matRow a i) k = xorSum k (fun j => gmul (entry (matRow a i) j) (f j))

/-! ## The invariant of a run -/

/-- In RS the sequencer stands at a micro-operation of the RS phase, in PAYLOAD at one of the payload phase. -/
def State.atPhase (s : State) : Bool :=
  match s.phase, s.upc with
  | .idle, _ | .done, _ => true
  | .rs, .rsSynd | .rs, .rsZero | .rs, .rsLoc | .rs, .rsChien | .rs, .rsCount | .rs, .rsMag | .rs, .rsCorr
  | .rs, .rsEnd | .rs, .seqBranch => true
  | .payload, .plInit | .payload, .plLoop | .payload, .plDispatch | .payload, .group | .payload, .plEnd
  | .payload, .seqDone => true
  | _, _ => false

/-- `USH` is 0 throughout X12, EDIFACT and Base256 (R177, R191, R205); `SSET` is 0 outside C40 and Text (R21, R178). -/
def State.flagsOk (s : State) : Bool :=
  match s.mode with
  | .ascii => s.sset == .set0
  | .c40 | .text => true
  | .x12 | .edifact | .base256 => s.sset == .set0 && !s.ush

/-- The table of R238: which values the result registers have together at DONE. -/
def State.resultOk (s : State) : Bool :=
  match s.result with
  | .success => s.rsstat != .unrecoverable && s.cause == .none && s.fidx == 0
  | .rsFail => s.rsstat == .unrecoverable && s.cause == .none && s.fidx == 0 && s.olen == 0
  | .payloadFail => s.rsstat != .unrecoverable && s.cause != .none && s.olen == 0

/-- The most bytes emitted when `IDX = i` (R48, C12): two for each codeword, and five more for a macro prefix. -/
def emitLimit (m : MacroTag) (i : Nat) : Nat := if m = .zero then 2 * i else 2 * i + 5

/-- What holds of the payload registers once PL.INIT has run: `0 <= IDX <= DW`, and `IDX < DW` where a group is to be
executed (R17, R131); the flags; a macro prefix is behind `IDX` (R132); and the output is bounded (R48). -/
def State.payloadOk (s : State) : Prop :=
  match s.upc with
  | .plInit => s.olen = 0
  | .plLoop | .plEnd =>
    s.idx ≤ s.dw ∧ s.flagsOk = true ∧ (s.macroReg ≠ .zero → 1 ≤ s.idx) ∧ s.olen ≤ emitLimit s.macroReg s.idx
  | .plDispatch | .group =>
    s.idx < s.dw ∧ s.flagsOk = true ∧ (s.macroReg ≠ .zero → 1 ≤ s.idx) ∧ s.olen ≤ emitLimit s.macroReg s.idx
  | .seqDone => s.idx ≤ s.dw ∧ s.olen ≤ (if s.dw = 0 then 0 else 2 * s.dw + 7)
  | _ => True

/-- What holds of the root registers between RS.CHIEN and RS.CORR (R13, R121). -/
def State.rootsOk (s : State) : Prop :=
  match s.upc with
  | .rsCount | .rsMag | .rsCorr => s.nroot = s.loc.length ∧ s.loc.Pairwise (· < ·) ∧ ∀ p ∈ s.loc, p < s.n
  | _ => True

/-- The invariant: it holds after reset, and every step keeps it. -/
structure Inv (s : State) : Prop where
  /-- `CW` is in canonical form. -/
  cwForm : s.cw.wf = true
  /-- `OUT` is in canonical form. -/
  outForm : s.out.wf = true
  /-- `OUT[0 .. OLEN-1]` hold values (R31, R45). -/
  outFilled : ∀ k, k < s.olen → (s.out.read k).isSome = true
  /-- The sequencer position belongs to `PHASE`. -/
  atPhase : s.atPhase = true
  /-- While a transaction runs the load is complete (R236). -/
  loaded : s.busy = true → s.loaded = true
  /-- While a transaction runs no fault is recorded (R81, R216). -/
  noFault : s.busy = true → s.cause = .none ∧ s.fidx = 0
  /-- Nothing is emitted in the RS phase (R81, R112). -/
  rsSilent : s.phase = .rs → s.olen = 0
  /-- The root registers. -/
  roots : s.phase = .rs → s.rootsOk
  /-- The payload phase runs only on OK or REPAIRED (R83). -/
  passed : s.phase = .payload → s.rsstat ≠ .unrecoverable
  /-- The payload registers. -/
  payload : s.phase = .payload → s.payloadOk
  /-- The result registers at DONE (R238). -/
  results : s.phase = .done → s.resultOk = true

/-! ## Transactions -/

/-- Two states a transaction starts from with the same `DW`, `EW` and contents of `CW[0 .. n-1]` (R86). -/
def SameInput (s s' : State) : Prop :=
  s.dw = s'.dw ∧ s.ew = s'.ew ∧ ∀ i, i < s.n → s.cw.read i = s'.cw.read i

/-- A codeword of the code (R113): the received polynomial vanishes at `α^1 .. α^EW`. -/
def IsCodeword (ew : Nat) (ws : List Byte) : Prop := ∀ i, 1 ≤ i → i ≤ ew → syndrome ws i = 0

/-- The number of cells in which two streams of `n` codewords differ. -/
def errorCount (n : Nat) (ws vs : List Byte) : Nat :=
  ((List.range n).filter fun k => ws[k]? != vs[k]?).length

/-- The host has no reset in its list, so that a running transaction is not abandoned (R230). -/
def State.undisturbed (s : State) : Prop := HostEvent.reset ∉ s.host

end Sys2Proof.Machine
end

