-- ==== Sys2Proof/Certificates/Slice0/Obligations.lean ====
section
/-! DEFINITION. The statements about the block, each from the rules its docstring cites. -/

open Sys2Proof Sys2Proof.Machine

/-- alphaTo 0 is 1 and alphaTo 1 is the Byte 0x02; for i up to 253 entry i+1 is entry i times x modulo 0x12D (shifted
left, exclusive-ored with 0x12D when the entry is at least 128, and below 256); the next power after entry 254 is 1
again; the entries 0 to 254 are non-zero and distinct. The spec marks a part of R91 as its own decision, derivation
or general knowledge (log 17). (R91) -/
def Obligations.AlphaTableIsPowersOfX : Prop :=
  alphaTo 0 = 1 ∧ alphaTo 1 = 0x02 ∧
  (∀ i, i ≤ 253 → (alphaTo (i + 1)).toNat =
    if (alphaTo i).toNat < 128 then (alphaTo i).toNat <<< 1 else ((alphaTo i).toNat <<< 1) ^^^ 0x12D) ∧
  ((alphaTo 254).toNat <<< 1) ^^^ 0x12D = 1 ∧ 128 ≤ (alphaTo 254).toNat ∧
  (∀ i, i ≤ 254 → alphaTo i ≠ 0) ∧
  ∀ i j, i ≤ 254 → j ≤ 254 → alphaTo i = alphaTo j → i = j

/-- For every non-zero Byte a, expOf a is at most 254, alphaTo of it is a, and it is the only index up to 254 with that
entry; alphaTo 255 is 0 and expOf 0 is 255. (R92, R93) -/
def Obligations.ExpTableInvertsAlphaTable : Prop :=
  (∀ a : Byte, a ≠ 0 → expOf a ≤ 254 ∧ alphaTo (expOf a) = a ∧ ∀ i, i ≤ 254 → alphaTo i = a → i = expOf a) ∧
  alphaTo 255 = 0 ∧ expOf 0 = 255

/-- gadd is the bitwise exclusive or; gmul is 0 where an operand is 0 and alphaTo ((expOf a + expOf b) mod 255)
otherwise; ginv a is alphaTo ((255 - expOf a) mod 255) and gdiv a b is gmul a (ginv b) where the divisor is not 0;
apow e is alphaTo (e mod 255), the index in 0 to 254 also for a negative e. gadd and gmul are associative and
commutative; gmul distributes over gadd; 0 and 1 are neutral; a non-zero Byte times its ginv is 1; apow of a sum is
the product; apow e equals apow f exactly when e and f are congruent modulo 255. The spec marks a part of R96, R97,
R98, R99 as its own decision, derivation or general knowledge (log 17). (R94, R95, R96, R97, R98, R99) -/
def Obligations.FieldLaws : Prop :=
  (∀ a b, gadd a b = a ^^^ b) ∧
  (∀ a b, gmul a b = if a = 0 ∨ b = 0 then 0 else alphaTo ((expOf a + expOf b) % 255)) ∧
  (∀ a, a ≠ 0 → ginv a = alphaTo ((255 - expOf a) % 255)) ∧ (∀ a b, b ≠ 0 → gdiv a b = gmul a (ginv b)) ∧
  (∀ e : Int, 0 ≤ e % 255 ∧ e % 255 ≤ 254 ∧ apow e = alphaTo (e % 255).toNat) ∧
  (∀ a b c, gadd (gadd a b) c = gadd a (gadd b c)) ∧ (∀ a b, gadd a b = gadd b a) ∧
  (∀ a b c, gmul (gmul a b) c = gmul a (gmul b c)) ∧ (∀ a b, gmul a b = gmul b a) ∧
  (∀ a b c, gmul a (gadd b c) = gadd (gmul a b) (gmul a c)) ∧
  (∀ a, gadd a 0 = a) ∧ (∀ a, gmul a 1 = a) ∧
  (∀ a, a ≠ 0 → gmul a (ginv a) = 1) ∧
  (∀ e f : Int, apow (e + f) = gmul (apow e) (apow f)) ∧
  (∀ e f : Int, apow e = apow f ↔ e % 255 = f % 255)

/-- For every m by m matrix a and right-hand side b of m Bytes: if solve answers x then x has m entries and every
equation holds, the sum over k of gmul a[i][k] x[k] being b[i]; if it answers INCONSISTENT then no vector of m Bytes
solves the system. The spec marks a part of R100 as its own decision, derivation or general knowledge (log 17).
(R100, 41_gf256.md section 3) -/
def Obligations.SolveFindsASolutionOrThereIsNone : Prop :=
  ∀ (m : Nat) (a : List (List Byte)) (b : List Byte),
    a.length = m → (∀ row ∈ a, row.length = m) → b.length = m →
    (∀ x, solve m a b = some x → Solves m a b x) ∧
    (solve m a b = none → ¬ ∃ x, Solves m a b x)

/-- Where solve answers x, every column k below m that is a combination of the columns to its left (a column without a
pivot in the reduced row echelon form) has x[k] = 0. The spec marks a part of R100, R101 as its own decision,
derivation or general knowledge (log 17). (R100, R101) -/
def Obligations.SolveSetsFreeUnknownsToZero : Prop :=
  ∀ (m : Nat) (a : List (List Byte)) (b x : List Byte),
    a.length = m → (∀ row ∈ a, row.length = m) → b.length = m → solve m a b = some x →
    ∀ k, k < m → FreeColumn m a k → x.getD k 0 = 0

/-- For every well-formed group instruction i, every index idx and every list ws of data codewords left that begins with
the codewords the encoder gives i (and, for the rows told apart by IDX or by the number of codewords left, meets
that condition), the decoder in the mode of i reads i; every operand ranges over every value the encoding admits.
The spec marks a part of R66, R74 as its own decision, derivation or general knowledge (log 17). (R60, R61, R64,
R66, R67, R68, R74) -/
def Obligations.GroupsDecodeAsEncoded : Prop :=
  ∀ (i : Instr) (m : Mode) (idx : Nat) (ws : List Byte),
    i.wf = true → i.isGroup = true → i.mode = some m → i.fits idx ws = true →
    decodeGroup m idx ws.length ws = .ok i

/-- If the decoder reads i in mode m at index idx from the codewords ws left, then i is well-formed, is a group row of
mode m, and fits ws at idx: every string of codewords has at most one reading and its row's condition holds. The
spec marks a part of R74 as its own decision, derivation or general knowledge (log 17). (R60, R61, R74) -/
def Obligations.DecodedGroupsAreWellFormed : Prop :=
  ∀ (i : Instr) (m : Mode) (idx : Nat) (ws : List Byte),
    decodeGroup m idx ws.length ws = .ok i →
    i.wf = true ∧ i.isGroup = true ∧ i.mode = some m ∧ i.fits idx ws = true

/-- In every mode and at every index a non-empty list of codewords left decodes to some instruction: no codeword stream
is refused by the decoder (reserved encodings are rows of their own). The spec marks a part of R70, R74 as its own
decision, derivation or general knowledge (log 17). (R60, R70, R74) -/
def Obligations.EveryNonEmptyDataRegionDecodes : Prop :=
  ∀ (m : Mode) (idx : Nat) (ws : List Byte), ws ≠ [] → ∃ i, decodeGroup m idx ws.length ws = .ok i

/-- For every well-formed C40, Text or X12 value row i with value v, in its mode and under its shift set (X12 rows under
any), value v decodes to i; and for the EDIFACT value rows likewise at their place j in the triple. Conversely every
value 0 to 39 in those modes, and every value 0 to 63 in EDIFACT, decodes to a well-formed row with that value;
value 31 is the unlatch, whose operand, its place j in the triple, is the model's reading (DEDUCED, log 21). The
spec marks a part of R69, R174, R194 as its own decision, derivation or general knowledge (log 17). (R69, R164,
R174, R176, R194, R195) -/
def Obligations.ValuesDecodeAsEncoded : Prop :=
  (∀ (i : Instr) (m : Mode) (ss : ShiftSet) (v : Nat), i.wf = true → encodeValue i = some v → i.mode = some m →
    m ≠ .edifact → (i.shiftSet = some ss ∨ i.shiftSet = none) → decodeValue m ss v = .ok i) ∧
  (∀ (m : Mode) (ss : ShiftSet) (v : Nat), (m = .c40 ∨ m = .text ∨ m = .x12) → v ≤ 39 →
    ∃ i, decodeValue m ss v = .ok i ∧ i.wf = true ∧ encodeValue i = some v) ∧
  (∀ (j v : Nat), j ≤ 3 → v ≤ 63 → ∃ i, decodeEdfValue j v = .ok i ∧ i.wf = true ∧ encodeValue i = some v) ∧
  (∀ (j v : Nat), v ≤ 30 → decodeEdfValue j v = .ok (.eLow v)) ∧
  (∀ (j : Nat), decodeEdfValue j 31 = .ok (.eUnl j)) ∧
  (∀ (j v : Nat), 32 ≤ v → v ≤ 63 → decodeEdfValue j v = .ok (.eHigh v))

/-- Fourteen streams of the spec's tables and examples, one or more of each mode, decode to the instruction the spec
gives: 142 is DIG 12, 66 is ASC 'A', 236 at index 0 is MAC05 and at index 1 reserved, 241 5 is ECI 5, 91 15 is the
C40 triple 14 22 30, a single 254 in C40 is a short group and 254 129 an unlatch, 12 171 is the Text triple 2 1 2,
254 129 in X12 an unlatch, 19 110 the X12 triple 3 4 13, two codewords in EDIFACT are a short group, 4 32 196 is the
EDIFACT quadruple 1 2 3 4, and 47 at index 1 is a Base256 length of 3. The spec marks a part of R66, R202 as its own
decision, derivation or general knowledge (log 17). (R61, R62, R63, R64, R65, R66, R67, R160, R190, R200, R202,
95_test_vectors.md sections 1.1, 2.5, 2.6) -/
def Obligations.WrittenOutCodewordsDecode : Prop :=
  decodeGroup .ascii 0 1 [142] = .ok (.dig 12) ∧ decodeGroup .ascii 3 1 [66] = .ok (.asc 65) ∧
  decodeGroup .ascii 0 1 [236] = .ok .mac05 ∧ decodeGroup .ascii 1 1 [236] = .ok (.rsv236 236) ∧
  decodeGroup .ascii 2 2 [241, 5] = .ok (.eci (some 5)) ∧ decodeGroup .c40 1 2 [91, 15] = .ok (.triC40 14 22 30) ∧
  decodeGroup .c40 4 1 [254] = .ok .pairShortC40 ∧ decodeGroup .c40 3 2 [254, 129] = .ok .unlC40 ∧
  decodeGroup .text 1 2 [12, 171] = .ok (.triText 2 1 2) ∧ decodeGroup .x12 4 2 [254, 129] = .ok .unlX12 ∧
  decodeGroup .x12 3 2 [19, 110] = .ok (.triX12 3 4 13) ∧ decodeGroup .edifact 1 2 [66, 67] = .ok .edfShort ∧
  decodeGroup .edifact 1 3 [4, 32, 196] = .ok (.edf 1 2 3 4) ∧
  decodeGroup .base256 1 4 [47, 2, 153, 47] = .ok (.b256L1 3)

/-- unrand v i is v minus ((149 (i+1)) mod 255 + 1), the non-negative remainder modulo 256; that offset lies in 1 to 255
and has period 255 in the index. (R200) -/
def Obligations.UnrandSubtractsTheOffset : Prop :=
  (∀ (v : Byte) (i : Nat),
    ((unrand v i).toNat : Int) = ((v.toNat : Int) - ((149 * (i + 1)) % 255 + 1 : Nat)) % 256) ∧
  ∀ i : Nat, (randOffset i).toNat = (149 * (i + 1)) % 255 + 1 ∧ 1 ≤ (randOffset i).toNat ∧
    (randOffset i).toNat ≤ 255 ∧ randOffset (i + 255) = randOffset i

/-- In the payload phase at a group, with the codewords left at IDX (at most three) held by CW and decoding to a
well-formed instruction i: if the host leaves the step to the block, step is exec of i at that state; with a host
wait first, it is exec of i at the state with that wait removed. That the host's events, a wait among them, stand in
a list which the step reads is the model's choice (DESIGN CHOICE, log 5). The sequencer position UPC is the model's
own field (log 4). (R60, R131, R133, 40_transaction.md R88) -/
def Obligations.StepRunsTheDecodedGroup : Prop :=
  ∀ (s : State) (ws : List Byte) (i : Instr),
    s.phase = .payload → s.upc = .group → ws.length = min (s.dw - s.idx) 3 → Holds s s.idx ws →
    decodeGroup s.mode s.idx (s.dw - s.idx) ws = .ok i → i.wf = true →
    (s.hostQuiet = true → step s = exec i s) ∧
    (∀ q, s.host = .wait :: q → step s = exec i { s with host := q })

/-- While PHASE is RS or PAYLOAD and the host leaves the step to the block, a step at each of the fourteen sequencer
positions other than a group runs exactly that micro-operation. After RS.SYND comes RS.ZERO, after RS.CHIEN
RS.COUNT, after RS.CORR RS.END, after RS.END SEQ.BRANCH, after SEQ.BRANCH into PAYLOAD PL.INIT, and after a group
that does not end the transaction PL.LOOP; the other operations' own statements give what follows them. The
sequencer position UPC is the model's own field (log 4). (R82, R84, R110) -/
def Obligations.StepRunsTheMicroOperation : Prop :=
  (∀ (s : State) (u : Micro) (i : Instr),
    (u, i) ∈ [(Micro.rsSynd, Instr.rsSynd), (.rsZero, .rsZero), (.rsLoc, .rsLoc), (.rsChien, .rsChien),
      (.rsCount, .rsCount), (.rsMag, .rsMag), (.rsCorr, .rsCorr), (.rsEnd, .rsEnd), (.seqBranch, .seqBranch),
      (.plInit, .plInit), (.plLoop, .plLoop), (.plDispatch, .plDispatch), (.plEnd, .plEnd), (.seqDone, .seqDone)] →
    (s.upc = u → s.busy = true → s.hostQuiet = true → step s = exec i s)) ∧
  (∀ s t : State, (exec .rsSynd s = .next t → t.upc = .rsZero) ∧ (exec .rsChien s = .next t → t.upc = .rsCount) ∧
    (exec .rsCorr s = .next t → t.upc = .rsEnd) ∧ (exec .rsEnd s = .next t → t.upc = .seqBranch) ∧
    (exec .seqBranch s = .next t → t.phase = .payload → t.upc = .plInit)) ∧
  ∀ (s t : State) (i : Instr), s.phase = .payload → i.isGroup = true → exec i s = .next t → t.phase = .payload →
    t.upc = .plLoop

/-- While no transaction runs a LOAD or START that stands first in the host's list is run with the rest of the list
left, and with an empty list nothing changes. A reset standing first gives the reset state with the rest of the
list, whatever PHASE is. That resets, waits and commands stand in a list and that LOAD and START wait there while a
transaction runs is the model's choice (log 5), as are the reset values other than PHASE (log 2). The spec marks a
part of R80, R81, R230, R231 as its own decision, derivation or general knowledge (log 17). (R80, R81, R85, R230,
R231) -/
def Obligations.StepTakesTheHostEvent : Prop :=
  ∀ (s : State) (q : List HostEvent),
    (∀ dw ew cells, s.busy = false → s.host = .load dw ew cells :: q →
      step s = exec (.load dw ew cells) { s with host := q }) ∧
    (s.busy = false → s.host = .start :: q → step s = exec .start { s with host := q }) ∧
    (s.busy = false → s.host = [] → step s = .next s) ∧
    (s.busy = false → s.host = .wait :: q → step s = .next { s with host := q }) ∧
    (s.host = .reset :: q → step s = .next { State.reset with host := q })

/-- While no transaction runs, LOAD of dw, ew and a stream of dw + ew Bytes answers a next state in which DW and EW are
those, CW[i] reads Byte i of the stream for every i below n, every other cell of CW reads as before, and nothing
else is changed but the model's own record that DW and EW are written (log 24); n = 0 is allowed. The spec marks a
part of R80 as its own decision, derivation or general knowledge (log 17). (R80) -/
def Obligations.LoadWritesTheStream : Prop :=
  ∀ (s : State) (dw ew : Nat) (ws : List Byte), s.busy = false → ws.length = dw + ew →
    ∃ t, exec (.load (some dw) (some ew) (streamCells ws)) s = .next t ∧
      t = { s with dw := dw, ew := ew, dwLoaded := true, ewLoaded := true, cw := t.cw } ∧ Holds t 0 ws ∧
      ∀ a, dw + ew ≤ a → t.cw.read a = s.cw.read a

/-- While no transaction runs, a LOAD that names DW or not, EW or not, and any cells with distinct indices below the
resulting n, answers a next state in which the named elements are as given, every other element and every other cell
of CW as before; the model's own record of a written DW or EW (log 24) is set where the LOAD names it and kept where
it does not. The spec marks a part of R239, R80 as its own decision, derivation or general knowledge (log 17).
(R239, R80) -/
def Obligations.LoadOfASubsetKeepsTheRest : Prop :=
  ∀ (s : State) (dw ew : Option Nat) (cells : List (Nat × Byte)), s.busy = false →
    (∀ p ∈ cells, p.1 < dw.getD s.dw + ew.getD s.ew) → cells.Pairwise (fun p q => p.1 ≠ q.1) →
    ∃ t, exec (.load dw ew cells) s = .next t ∧
      t = { s with dw := dw.getD s.dw, ew := ew.getD s.ew, dwLoaded := t.dwLoaded, ewLoaded := t.ewLoaded, cw := t.cw } ∧
      t.dwLoaded = (s.dwLoaded || dw.isSome) ∧ t.ewLoaded = (s.ewLoaded || ew.isSome) ∧
      (∀ p ∈ cells, t.cw.read p.1 = some p.2) ∧
      ∀ a, (∀ p ∈ cells, p.1 ≠ a) → t.cw.read a = s.cw.read a

/-- While no transaction runs and DW, EW and every cell of CW[0..n-1] have been written by the host since reset (R236;
DW and EW by the model's record of log 24), START answers the next state with OLEN 0, CAUSE NONE, FIDX 0, PHASE RS
and the sequencer at RS.SYND (the position is the model's own state, log 4); everything else is unchanged. The spec
marks a part of R81, R236 as its own decision, derivation or general knowledge (log 17). (R81, R236) -/
def Obligations.StartBeginsATransaction : Prop :=
  ∀ s : State, s.busy = false → s.dwLoaded = true → s.ewLoaded = true → (∀ i, i < s.n → s.cw.read i ≠ none) →
    exec .start s = .next { s with olen := 0, cause := .none, fidx := 0, phase := .rs, upc := .rsSynd }

/-- While a transaction runs LOAD and START are refused as hostBusy; a START with DW, EW or a cell of CW[0..n-1] never
written since reset is refused as unloadedStart; a LOAD of any cells, one of them at or above the n it leaves,
faults as noSuchCell of the first such cell. These stops are the model's treatment (logs 3, 5, 12, 24) of what R40,
R236, R237 and U11, U15 leave without an outcome. The spec marks a part of R236, R237 as its own decision,
derivation or general knowledge (log 17). (R40, R236, R237, 93_implementation_defined.md U11, U15) -/
def Obligations.HostOutsideTheProtocolIsRefused : Prop :=
  ∀ s : State,
    (s.busy = true → ∀ dw ew cells, exec (.load dw ew cells) s = .refused .hostBusy) ∧
    (s.busy = true → exec .start s = .refused .hostBusy) ∧
    (s.busy = false → s.dwLoaded = false ∨ s.ewLoaded = false ∨ (∃ i, i < s.n ∧ s.cw.read i = none) →
      exec .start s = .refused .unloadedStart) ∧
    (s.busy = false → ∀ dw ew cells c,
      cells.find? (fun d : Nat × Byte => decide (dw.getD s.dw + ew.getD s.ew ≤ d.1)) = some c →
      exec (.load dw ew cells) s = .fault (.noSuchCell c.1))

/-- With CW[0..n-1] holding the codewords ws, RS.SYND answers a next state in which S has 2t elements, S[i] is the
exclusive or over j below n of gmul(CW[n-1-j], apow(j i)), and nothing else is changed but the sequencer position.
(R117) -/
def Obligations.RsSyndComputesTheSyndromes : Prop :=
  ∀ (s : State) (ws : List Byte), ws.length = s.n → Holds s 0 ws →
    ∃ t, exec .rsSynd s = .next t ∧ t = { s with synd := t.synd, upc := t.upc } ∧ t.synd.length = 2 * s.t ∧
      ∀ i, 1 ≤ i → i ≤ 2 * s.t →
        syndAt t i = xorSum s.n fun j => gmul (ws.getD (s.n - 1 - j) 0) (apow ((j * i : Nat) : Int))

/-- If S[i] is 0 for every i in 1..2t, RS.ZERO sets RSSTAT to OK and goes to SEQ.BRANCH; if some S[i] is not 0 it goes
on with RS.LOC; nothing else is changed. The sequencer position UPC is the model's own field (log 4). (R118) -/
def Obligations.RsZeroReturnsOkOnZeroSyndromes : Prop :=
  ∀ s : State,
    ((∀ i, 1 ≤ i → i ≤ 2 * s.t → syndAt s i = 0) →
      exec .rsZero s = .next { s with rsstat := .ok, upc := .seqBranch }) ∧
    ((∃ i, 1 ≤ i ∧ i ≤ 2 * s.t ∧ syndAt s i ≠ 0) → exec .rsZero s = .next { s with upc := .rsLoc })

/-- With A[i][k] = S[t+i-k] and b[i] = S[t+i+1] for i, k below t: where solve answers r, RS.LOC sets SIG to r and goes
on; where it reports INCONSISTENT, RSSTAT becomes UNRECOVERABLE and the RS phase is left with CW and SIG as they
were. The sequencer position UPC is the model's own field (log 4). The spec marks a part of R120 as its own
decision, derivation or general knowledge (log 17). (R119, R120) -/
def Obligations.RsLocSolvesTheLocatorSystem : Prop :=
  ∀ s : State,
    (∀ r, solve s.t (matrixOf s.t fun i k => syndAt s (s.t + i - k))
        ((List.range s.t).map fun i => syndAt s (s.t + i + 1)) = some r →
      exec .rsLoc s = .next { s with sig := r, upc := .rsChien }) ∧
    (solve s.t (matrixOf s.t fun i k => syndAt s (s.t + i - k))
        ((List.range s.t).map fun i => syndAt s (s.t + i + 1)) = none →
      exec .rsLoc s = .next { s with rsstat := .unrecoverable, upc := .seqBranch })

/-- RS.CHIEN answers a next state in which LOC is strictly ascending and holds exactly the positions i below n with 1
plus the sum of gmul(SIG[k], apow(-(i k + i))) equal to 0, NROOT is their number, and nothing else is changed but
the sequencer position. (R121) -/
def Obligations.RsChienFindsExactlyTheRoots : Prop :=
  ∀ s : State, ∃ t, exec .rsChien s = .next t ∧
    t = { s with nroot := t.nroot, loc := t.loc, upc := t.upc } ∧
    t.nroot = t.loc.length ∧ t.loc.Pairwise (· < ·) ∧
    ∀ i, i ∈ t.loc ↔ i < s.n ∧
      gadd 1 (xorSum s.t fun k => gmul (s.sig.getD k 0) (apow (-((i * k + i : Nat) : Int)))) = 0

/-- With NROOT = 0 or NROOT > t, RS.COUNT sets RSSTAT to UNRECOVERABLE and leaves the RS phase with CW unchanged;
otherwise it goes on with RS.MAG; nothing else is changed. The sequencer position UPC is the model's own field (log
4). (R122) -/
def Obligations.RsCountChecksTheRootCount : Prop :=
  ∀ s : State,
    ((s.nroot = 0 ∨ s.t < s.nroot) →
      exec .rsCount s = .next { s with rsstat := .unrecoverable, upc := .seqBranch }) ∧
    (1 ≤ s.nroot → s.nroot ≤ s.t → exec .rsCount s = .next { s with upc := .rsMag })

/-- With B[i][k] = apow(LOC[k] (i+1)) and h[i] = S[i+1] for i, k below NROOT: where solve answers r, RS.MAG sets Y to r
and goes on; where it reports INCONSISTENT, RSSTAT becomes UNRECOVERABLE and the RS phase is left with CW unchanged.
The sequencer position UPC is the model's own field (log 4). The spec marks a part of R123, R124 as its own
decision, derivation or general knowledge (log 17). (R123, R124) -/
def Obligations.RsMagSolvesTheMagnitudeSystem : Prop :=
  ∀ s : State,
    (∀ r, solve s.nroot (matrixOf s.nroot fun i k => apow ((locAt s k * (i + 1) : Nat) : Int))
        ((List.range s.nroot).map fun i => syndAt s (i + 1)) = some r →
      exec .rsMag s = .next { s with y := r, upc := .rsCorr }) ∧
    (solve s.nroot (matrixOf s.nroot fun i k => apow ((locAt s k * (i + 1) : Nat) : Int))
        ((List.range s.nroot).map fun i => syndAt s (i + 1)) = none →
      exec .rsMag s = .next { s with rsstat := .unrecoverable, upc := .seqBranch })

/-- With the first NROOT positions LOC[k] distinct and below n and their cells loaded, RS.CORR answers a next state in
which the cell at n-1-LOC[k] is its old value exclusive-ored with Y[k] for each k below NROOT, every other cell of
CW reads as before, and nothing else is changed but the sequencer position. (R125) -/
def Obligations.RsCorrAddsTheMagnitudes : Prop :=
  ∀ s : State, (∀ k, k < s.nroot → locAt s k < s.n) →
    (∀ k l, k < s.nroot → l < s.nroot → locAt s k = locAt s l → k = l) →
    (∀ k, k < s.nroot → s.cw.read (s.n - 1 - locAt s k) ≠ none) →
    ∃ t, exec .rsCorr s = .next t ∧ t = { s with cw := t.cw, upc := t.upc } ∧
      (∀ k, k < s.nroot → t.cw.read (s.n - 1 - locAt s k) =
        (s.cw.read (s.n - 1 - locAt s k)).map fun b => b ^^^ yAt s k) ∧
      ∀ a, (∀ k, k < s.nroot → a ≠ s.n - 1 - locAt s k) → t.cw.read a = s.cw.read a

/-- RS.END answers a next state with RSSTAT REPAIRED; nothing else is changed but the sequencer position: the syndromes
are not computed again. (R126) -/
def Obligations.RsEndReportsRepaired : Prop :=
  ∀ s : State, ∃ t, exec .rsEnd s = .next t ∧ t = { s with rsstat := .repaired, upc := t.upc }

/-- From the start of the RS phase with CW holding ws, every syndrome of ws from 1 to 2t zero (none when EW is 0 or 1)
and no host event: two steps lead to SEQ.BRANCH with RSSTAT OK, and only S, RSSTAT and the sequencer position have
changed. The sequencer position UPC is the model's own field (log 4). The spec marks a part of R114, R127 as its own
decision, derivation or general knowledge (log 17). (R114, R117, R118, R127) -/
def Obligations.ZeroSyndromeStreamIsOk : Prop :=
  ∀ (s : State) (ws : List Byte), s.phase = .rs → s.upc = .rsSynd → s.host = [] → ws.length = s.n → Holds s 0 ws →
    (∀ i, 1 ≤ i → i ≤ 2 * s.t → syndrome ws i = 0) →
    ∃ t, Host.Core.run Sys2Proof.core 2 s = .next t ∧
      t = { s with synd := t.synd, rsstat := .ok, upc := .seqBranch }

/-- From the start of the RS phase with n at most 255 and t at least 1, CW holding a codeword of the code in which one
cell was changed: eight steps lead to SEQ.BRANCH with RSSTAT REPAIRED and CW[0..n-1] holding the codeword again; no
other cell of CW, and nothing but the working registers, RSSTAT and the sequencer position, has changed. The
sequencer position UPC is the model's own field (log 4). The spec marks a part of R127 as its own decision,
derivation or general knowledge (log 17). (R127, 95_test_vectors.md S5) -/
def Obligations.OneWrongCodewordIsRepaired : Prop :=
  ∀ (s : State) (ws : List Byte) (k : Nat) (e : Byte),
    s.phase = .rs → s.upc = .rsSynd → s.host = [] → s.n ≤ 255 → 1 ≤ s.t → ws.length = s.n → IsCodeword s.ew ws →
    k < s.n → e ≠ 0 → Holds s 0 (ws.set k (ws.getD k 0 ^^^ e)) →
    ∃ t, Host.Core.run Sys2Proof.core 8 s = .next t ∧ t.rsstat = .repaired ∧ t.upc = .seqBranch ∧ Holds t 0 ws ∧
      (∀ a, s.n ≤ a → t.cw.read a = s.cw.read a) ∧
      t = { s with cw := t.cw, synd := t.synd, sig := t.sig, nroot := t.nroot, loc := t.loc, y := t.y, rsstat := t.rsstat, upc := t.upc }

/-- From the start of the RS phase with n at most 255, CW holding vs, which differs from a codeword ws of the code (all
EW roots) in at most t cells: with no difference two steps end the phase OK with CW unchanged; with at least one
difference eight steps end it REPAIRED with CW[0..n-1] holding ws. The sequencer position UPC is the model's own
field (log 4). The spec marks a part of R127 as its own decision, derivation or general knowledge (log 17). (R127) -/
def Obligations.UpToTErrorsAreCorrected : Prop :=
  ∀ (s : State) (ws vs : List Byte),
    s.phase = .rs → s.upc = .rsSynd → s.host = [] → s.n ≤ 255 → ws.length = s.n → vs.length = s.n →
    IsCodeword s.ew ws → Holds s 0 vs → errorCount s.n ws vs ≤ s.t →
    (errorCount s.n ws vs = 0 → ∃ t, Host.Core.run Sys2Proof.core 2 s = .next t ∧ t.upc = .seqBranch ∧
      t.rsstat = .ok ∧ ∀ a, t.cw.read a = s.cw.read a) ∧
    (1 ≤ errorCount s.n ws vs → ∃ t, Host.Core.run Sys2Proof.core 8 s = .next t ∧ t.upc = .seqBranch ∧
      t.rsstat = .repaired ∧ Holds t 0 ws)

/-- From the start of the RS phase with no host event, whenever a run reaches DONE with RSSTAT UNRECOVERABLE, every cell
of CW reads as it did at the start, RESULT is RS_FAIL, and OLEN, CAUSE and FIDX are as at the start. The sequencer
position UPC is the model's own field (log 4). The spec marks a part of R215, R238 as its own decision, derivation
or general knowledge (log 17). (R215, R238) -/
def Obligations.UnrecoverableLeavesCwAsLoaded : Prop :=
  ∀ (s t : State) (k : Nat), s.phase = .rs → s.upc = .rsSynd → s.host = [] →
    Host.Core.run Sys2Proof.core k s = .next t → t.phase = .done → t.rsstat = .unrecoverable →
    (∀ a, t.cw.read a = s.cw.read a) ∧ t.result = .rsFail ∧ t.olen = s.olen ∧ t.cause = s.cause ∧ t.fidx = s.fidx

/-- With RSSTAT UNRECOVERABLE, SEQ.BRANCH sets RESULT to RS_FAIL and PHASE to DONE; with OK or REPAIRED it sets PHASE to
PAYLOAD; nothing else is changed but, there, the sequencer position. (R83) -/
def Obligations.SeqBranchFollowsTheOutcome : Prop :=
  ∀ s : State,
    (s.rsstat = .unrecoverable → exec .seqBranch s = .next { s with result := .rsFail, phase := .done }) ∧
    (s.rsstat = .ok ∨ s.rsstat = .repaired →
      ∃ t, exec .seqBranch s = .next t ∧ t = { s with phase := .payload, upc := t.upc })

/-- PL.INIT sets IDX, MODE, USH, SSET and MACRO to 0, ASCII, 0, 0, 0; PL.LOOP goes on to a group while IDX is below DW
and to the end otherwise; PL.DISPATCH hands over to the group at IDX; nothing else is changed. The sequencer
position UPC is the model's own field (log 4). (R130, R131, R133) -/
def Obligations.PayloadFrameRuns : Prop :=
  ∀ s : State,
    exec .plInit s = .next { s with idx := 0, mode := .ascii, ush := false, sset := .set0, macroReg := .zero, upc := .plLoop } ∧
    (s.idx < s.dw → exec .plLoop s = .next { s with upc := .plDispatch }) ∧
    (s.dw ≤ s.idx → exec .plLoop s = .next { s with upc := .plEnd }) ∧
    exec .plDispatch s = .next { s with upc := .group }

/-- With MACRO 0 PL.END only goes to SEQ.DONE; with MACRO 5 or 6 it emits 1E 04 first. SEQ.DONE with no recorded cause
sets RESULT to SUCCESS and PHASE to DONE; with a cause recorded (which R216 has then already recorded) it sets
PAYLOAD_FAIL, OLEN 0 and DONE. Nothing else is changed. That CAUSE tells the two apart is the model's reading (log
20). The sequencer position UPC is the model's own field (log 4). (R134, R85) -/
def Obligations.PayloadEndEmitsTheTrailer : Prop :=
  ∀ s : State,
    (s.macroReg = .zero → exec .plEnd s = .next { s with upc := .seqDone }) ∧
    (s.macroReg ≠ .zero → ∃ t, exec .plEnd s = .next t ∧ Appends s t [0x1E, 0x04] ∧
      t = { s with out := t.out, olen := t.olen, upc := .seqDone }) ∧
    (s.cause = .none → exec .seqDone s = .next { s with result := .success, phase := .done }) ∧
    (s.cause ≠ .none → exec .seqDone s = .next { s with result := .payloadFail, olen := 0, phase := .done })

/-- MAC05 emits 5B 29 3E 1E 30 35 1D and sets MACRO to 5, MAC06 emits the same with 36 and sets MACRO to 6; IDX becomes
1; nothing else is changed but the sequencer position. The sequencer position UPC is the model's own field (log 4).
The spec marks a part of R132 as its own decision, derivation or general knowledge (log 17). (R132) -/
def Obligations.MacroPrefixEmitsTheHeader : Prop :=
  ∀ s : State,
    (∃ t, exec .mac05 s = .next t ∧ Appends s t [0x5B, 0x29, 0x3E, 0x1E, 0x30, 0x35, 0x1D] ∧
      t = { s with out := t.out, olen := t.olen, macroReg := .five, idx := 1, upc := .plLoop }) ∧
    (∃ t, exec .mac06 s = .next t ∧ Appends s t [0x5B, 0x29, 0x3E, 0x1E, 0x30, 0x36, 0x1D] ∧
      t = { s with out := t.out, olen := t.olen, macroReg := .six, idx := 1, upc := .plLoop })

/-- For b up to 127, ASC b appends the Byte b, or b + 128 when USH is set; USH is 0 afterwards, IDX advances by 1, and
nothing else is changed but the sequencer position. (R135, R141) -/
def Obligations.AscEmitsUnderUpperShift : Prop :=
  ∀ (s : State) (b : Nat), b ≤ 127 →
    ∃ t, exec (.asc b) s = .next t ∧ Appends s t [BitVec.ofNat 8 (if s.ush then b + 128 else b)] ∧
      t = { s with out := t.out, olen := t.olen, ush := false, idx := s.idx + 1, upc := t.upc }

/-- For dd up to 99, DIG dd appends the characters of dd div 10 and dd mod 10; IDX advances by 1; USH is neither applied
nor cleared, and nothing else is changed but the sequencer position. The sequencer position UPC is the model's own
field (log 4). The spec marks a part of R137 as its own decision, derivation or general knowledge (log 17). (R137) -/
def Obligations.DigEmitsTwoDigits : Prop :=
  ∀ (s : State) (dd : Nat), dd ≤ 99 →
    ∃ t, exec (.dig dd) s = .next t ∧
      Appends s t [BitVec.ofNat 8 (0x30 + dd / 10), BitVec.ofNat 8 (0x30 + dd % 10)] ∧
      t = { s with out := t.out, olen := t.olen, idx := s.idx + 1, upc := .plLoop }

/-- LC40, LTXT, LB256, LX12 and LEDF set MODE to their mode, clear USH, and advance IDX by 1; LC40 and LTXT also clear
SSET, and the other three leave it; nothing is emitted and nothing else is changed but the sequencer position. The
sequencer position UPC is the model's own field (log 4). The spec marks a part of R138 as its own decision,
derivation or general knowledge (log 17). (R138, R139, R143, R144, R145) -/
def Obligations.LatchesSwitchTheMode : Prop :=
  ∀ s : State,
    exec .lc40 s = .next { s with mode := .c40, sset := .set0, ush := false, idx := s.idx + 1, upc := .plLoop } ∧
    exec .ltxt s = .next { s with mode := .text, sset := .set0, ush := false, idx := s.idx + 1, upc := .plLoop } ∧
    exec .lb256 s = .next { s with mode := .base256, ush := false, idx := s.idx + 1, upc := .plLoop } ∧
    exec .lx12 s = .next { s with mode := .x12, ush := false, idx := s.idx + 1, upc := .plLoop } ∧
    exec .ledf s = .next { s with mode := .edifact, ush := false, idx := s.idx + 1, upc := .plLoop }

/-- FNC1 advances IDX by 1; USH sets the upper-shift flag and advances IDX by 1; PAD sets IDX to DW; ECI with or without
its operand sets IDX to the lesser of IDX + 2 and DW; nothing is emitted and nothing else is changed but the
sequencer position. The sequencer position UPC is the model's own field (log 4). The spec marks a part of R140,
R142, R136, R147 as its own decision, derivation or general knowledge (log 17). (R140, R142, R136, R147) -/
def Obligations.SilentCodewordsMoveOn : Prop :=
  ∀ s : State,
    exec .fnc1 s = .next { s with idx := s.idx + 1, upc := .plLoop } ∧
    exec .ush s = .next { s with ush := true, idx := s.idx + 1, upc := .plLoop } ∧
    exec .pad s = .next { s with idx := s.dw, upc := .plLoop } ∧
    ∀ v, exec (.eci v) s = .next { s with idx := min (s.idx + 2) s.dw, upc := .plLoop }

/-- RSV.0, RSV.233 (233, 234), RSV.236 (236, 237) and RSV.242 (242 to 255) answer the next state of R216: RESULT
PAYLOAD_FAIL, CAUSE RESERVED_CODEWORD, FIDX the IDX of the group, OLEN 0, PHASE DONE, IDX not advanced, CW, RSSTAT,
MODE, USH, SSET and MACRO kept. That no cell of OUT has a value afterwards is the model's form of its being invalid
(log 8). The spec marks a part of R146, R216 as its own decision, derivation or general knowledge (log 17). (R146,
R216) -/
def Obligations.ReservedCodewordsFail : Prop :=
  ∀ s : State,
    exec .rsv0 s = .next (payloadFault .reservedCodeword s) ∧
    (∀ w : Byte, w = 233 ∨ w = 234 → exec (.rsv233 w) s = .next (payloadFault .reservedCodeword s)) ∧
    (∀ w : Byte, w = 236 ∨ w = 237 → exec (.rsv236 w) s = .next (payloadFault .reservedCodeword s)) ∧
    (∀ w : Byte, 242 ≤ w.toNat → exec (.rsv242 w) s = .next (payloadFault .reservedCodeword s))

/-- In C40, Text and X12, PAIR.SHORT sets MODE to ASCII and clears SSET and USH with IDX unchanged, and UNL does the
same and advances IDX by 1; nothing is emitted and nothing else is changed but the sequencer position. The sequencer
position UPC is the model's own field (log 4). The spec marks a part of R161 as its own decision, derivation or
general knowledge (log 17). (R161, R162) -/
def Obligations.PairRunsEnd : Prop :=
  ∀ (s : State) (i : Instr),
    (i ∈ [Instr.pairShortC40, .pairShortText, .pairShortX12] →
      exec i s = .next { s with mode := .ascii, sset := .set0, ush := false, upc := .plLoop }) ∧
    (i ∈ [Instr.unlC40, .unlText, .unlX12] →
      exec i s = .next { s with mode := .ascii, sset := .set0, ush := false, idx := s.idx + 1, upc := .plLoop })

/-- RSV.PAIR0 and RSV.PAIRHI in C40, Text and X12, the latter for every pair number above 64000, answer the next state
of R216 with CAUSE RESERVED_TRIPLE; OUT's loss of its values is the model's form of its being invalid (log 8). The
spec marks a part of R175, R216 as its own decision, derivation or general knowledge (log 17). (R175, R216) -/
def Obligations.ReservedPairsFail : Prop :=
  ∀ s : State,
    (∀ i ∈ [Instr.rsvPair0C40, .rsvPair0Text, .rsvPair0X12], exec i s = .next (payloadFault .reservedTriple s)) ∧
    ∀ num, 64000 < num → num ≤ 65535 →
      exec (.rsvPairHiC40 num) s = .next (payloadFault .reservedTriple s) ∧
      exec (.rsvPairHiText num) s = .next (payloadFault .reservedTriple s) ∧
      exec (.rsvPairHiX12 num) s = .next (payloadFault .reservedTriple s)

/-- For values up to 39 and every state, running a, b, c one by one as the rows their mode and the current SSET select
is defined, and TRI answers next: where no row is reserved, the state they reach with IDX advanced by 2; where a
reserved row comes first, the state of R216 that the row leaves, with later values not run. The sequencer position
UPC is the model's own field (log 4). The spec marks a part of R174, R219 as its own decision, derivation or general
knowledge (log 17). (R163, R164, R174, R219) -/
def Obligations.TripleRunsItsRows : Prop :=
  ∀ (s : State) (a b c : Nat), a ≤ 39 → b ≤ 39 → c ≤ 39 →
    (∃ t raised, runRows .c40 [a, b, c] s = some (t, raised) ∧
      exec (.triC40 a b c) s = .next (if raised then t else { t with idx := s.idx + 2, upc := .plLoop })) ∧
    (∃ t raised, runRows .text [a, b, c] s = some (t, raised) ∧
      exec (.triText a b c) s = .next (if raised then t else { t with idx := s.idx + 2, upc := .plLoop })) ∧
    (∃ t raised, runRows .x12 [a, b, c] s = some (t, raised) ∧
      exec (.triX12 a b c) s = .next (if raised then t else { t with idx := s.idx + 2, upc := .plLoop }))

/-- With SSET 0 and values 3 to 39, TRI in C40 and in Text appends the characters of the three values (space, digits,
upper-case letters in C40 and lower-case in Text), the first with 128 added when USH is set; USH is 0 afterwards,
IDX advances by 2, and nothing else is changed but the sequencer position. The sequencer position UPC is the model's
own field (log 4). The spec marks a part of R166, R167 as its own decision, derivation or general knowledge (log
17). (R163, R166, R167, R168) -/
def Obligations.BasicTriplesEmitThreeCharacters : Prop :=
  ∀ (s : State) (a b c : Nat), s.sset = .set0 → 3 ≤ a → a ≤ 39 → 3 ≤ b → b ≤ 39 → 3 ≤ c → c ≤ 39 →
    (∃ t, exec (.triC40 a b c) s = .next t ∧
      Appends s t [usByte s (basicCode 0x41 a), byte (basicCode 0x41 b), byte (basicCode 0x41 c)] ∧
      t = { s with out := t.out, olen := t.olen, ush := false, idx := s.idx + 2, upc := .plLoop }) ∧
    (∃ t, exec (.triText a b c) s = .next t ∧
      Appends s t [usByte s (basicCode 0x61 a), byte (basicCode 0x61 b), byte (basicCode 0x61 c)] ∧
      t = { s with out := t.out, olen := t.olen, ush := false, idx := s.idx + 2, upc := .plLoop })

/-- For values up to 39, TRI in X12 appends the three X12 characters (CR, *, >, space, digits, letters) whatever USH and
SSET are, advances IDX by 2, and changes nothing else but the sequencer position. The sequencer position UPC is the
model's own field (log 4). The spec marks a part of R177 as its own decision, derivation or general knowledge (log
17). (R163, R176, R177) -/
def Obligations.X12TriplesEmitThreeCharacters : Prop :=
  ∀ (s : State) (a b c : Nat), a ≤ 39 → b ≤ 39 → c ≤ 39 →
    ∃ t, exec (.triX12 a b c) s = .next t ∧ Appends s t [byte (x12Code a), byte (x12Code b), byte (x12Code c)] ∧
      t = { s with out := t.out, olen := t.olen, idx := s.idx + 2, upc := .plLoop }

/-- In C40 and Text, SH1, SH2 and SH3 set SSET to 1, 2 and 3; nothing is emitted and nothing else is changed. The spec
marks a part of R165 as its own decision, derivation or general knowledge (log 17). (R165) -/
def Obligations.ShiftValuesSelectTheSet : Prop :=
  ∀ (s : State),
    (∀ i ∈ [Instr.sh1C40, .sh1Text], exec i s = .next { s with sset := .set1 }) ∧
    (∀ i ∈ [Instr.sh2C40, .sh2Text], exec i s = .next { s with sset := .set2 }) ∧
    (∀ i ∈ [Instr.sh3C40, .sh3Text], exec i s = .next { s with sset := .set3 })

/-- V.SP, V.DIGIT and V.UPPER in C40, and V.SP, V.DIGIT and V.LOWER in Text, append their character (0x20; 0x30 + v - 4
for 4..13; 0x41 or 0x61 + v - 14 for 14..39), with 128 added when USH is set; USH is 0 afterwards and nothing else
is changed. The spec marks a part of R166, R167 as its own decision, derivation or general knowledge (log 17).
(R166, R167, R168) -/
def Obligations.BasicValuesEmitTheirCharacter : Prop :=
  ∀ (s : State) (i : Instr) (ch : Nat),
    (((i = .vSpC40 ∨ i = .vSpText) ∧ ch = 0x20) ∨
     (∃ v, 4 ≤ v ∧ v ≤ 13 ∧ (i = .vDigitC40 v ∨ i = .vDigitText v) ∧ ch = 0x30 + (v - 4)) ∨
     (∃ v, 14 ≤ v ∧ v ≤ 39 ∧ i = .vUpperC40 v ∧ ch = 0x41 + (v - 14)) ∨
     (∃ v, 14 ≤ v ∧ v ≤ 39 ∧ i = .vLowerText v ∧ ch = 0x61 + (v - 14))) →
    ∃ t, exec i s = .next t ∧ Appends s t [usByte s ch] ∧
      t = { s with out := t.out, olen := t.olen, ush := false }

/-- V.S1, V.S2A, V.S2B and V.S2C in C40 and Text, V.S3 in C40, and V.S3GRAVE, V.S3UPPER and V.S3HIGH in Text append the
character the spec gives the value, with 128 added when USH is set; SSET and USH are 0 afterwards and nothing else
is changed. The spec marks a part of R169, R170, R173 as its own decision, derivation or general knowledge (log 17).
(R169, R170, R173) -/
def Obligations.ShiftedValuesEmitTheirCharacter : Prop :=
  ∀ (s : State) (i : Instr) (ch : Nat),
    ((∃ v, v ≤ 31 ∧ (i = .vS1C40 v ∨ i = .vS1Text v) ∧ ch = v) ∨
     (∃ v, v ≤ 14 ∧ (i = .vS2aC40 v ∨ i = .vS2aText v) ∧ ch = 0x21 + v) ∨
     (∃ v, 15 ≤ v ∧ v ≤ 21 ∧ (i = .vS2bC40 v ∨ i = .vS2bText v) ∧ ch = 0x3A + (v - 15)) ∨
     (∃ v, 22 ≤ v ∧ v ≤ 26 ∧ (i = .vS2cC40 v ∨ i = .vS2cText v) ∧ ch = 0x5B + (v - 22)) ∨
     (∃ v, v ≤ 31 ∧ i = .vS3C40 v ∧ ch = 0x60 + v) ∨
     (i = .vS3graveText ∧ ch = 0x60) ∨
     (∃ v, 1 ≤ v ∧ v ≤ 26 ∧ i = .vS3upperText v ∧ ch = 0x41 + (v - 1)) ∨
     (∃ v, 27 ≤ v ∧ v ≤ 31 ∧ i = .vS3highText v ∧ ch = 0x7B + (v - 27))) →
    ∃ t, exec i s = .next t ∧ Appends s t [usByte s ch] ∧
      t = { s with out := t.out, olen := t.olen, ush := false, sset := .set0 }

/-- V.S2FNC1 in C40 and Text clears SSET; V.S2USH sets USH and clears SSET; nothing is emitted and nothing else is
changed. The spec marks a part of R171, R172 as its own decision, derivation or general knowledge (log 17). (R171,
R172) -/
def Obligations.ShiftTwoFunctionsEmitNothing : Prop :=
  ∀ s : State,
    (∀ i ∈ [Instr.vS2fnc1C40, .vS2fnc1Text], exec i s = .next { s with sset := .set0 }) ∧
    (∀ i ∈ [Instr.vS2ushC40, .vS2ushText], exec i s = .next { s with ush := true, sset := .set0 })

/-- RSV.S1 and RSV.S3 (32 to 39), RSV.S2A (28, 29) and RSV.S2B (31 to 39), in C40 and in Text, answer the next state of
R216 with CAUSE RESERVED_VALUE; OUT's loss of its values is the model's form of its being invalid (log 8). The spec
marks a part of R174, R216 as its own decision, derivation or general knowledge (log 17). (R174, R216) -/
def Obligations.ReservedValuesFail : Prop :=
  ∀ (s : State) (v : Nat),
    (32 ≤ v → v ≤ 39 → ∀ i ∈ [Instr.rsvS1C40 v, .rsvS1Text v, .rsvS3C40 v, .rsvS3Text v],
      exec i s = .next (payloadFault .reservedValue s)) ∧
    (28 ≤ v → v ≤ 29 → ∀ i ∈ [Instr.rsvS2aC40 v, .rsvS2aText v],
      exec i s = .next (payloadFault .reservedValue s)) ∧
    (31 ≤ v → v ≤ 39 → ∀ i ∈ [Instr.rsvS2bC40 v, .rsvS2bText v],
      exec i s = .next (payloadFault .reservedValue s))

/-- X.CR, X.STAR, X.GT, X.SP, X.DIGIT and X.UPPER append 0D, 2A, 3E, 20, a digit or a letter; USH and SSET are neither
read nor written, and nothing else is changed. (R176) -/
def Obligations.X12ValuesEmitTheirCharacter : Prop :=
  ∀ (s : State) (i : Instr) (ch : Nat),
    ((i = .xCr ∧ ch = 0x0D) ∨ (i = .xStar ∧ ch = 0x2A) ∨ (i = .xGt ∧ ch = 0x3E) ∨ (i = .xSp ∧ ch = 0x20) ∨
     (∃ v, 4 ≤ v ∧ v ≤ 13 ∧ i = .xDigit v ∧ ch = 0x30 + (v - 4)) ∨
     (∃ v, 14 ≤ v ∧ v ≤ 39 ∧ i = .xUpper v ∧ ch = 0x41 + (v - 14))) →
    ∃ t, exec i s = .next t ∧ Appends s t [byte ch] ∧ t = { s with out := t.out, olen := t.olen }

/-- For four values up to 63, none 31, EDF appends for each v the Byte v | 0x40 (v up to 30) or v (from 32), in order;
IDX advances by 3, MODE stays, and nothing else is changed but the sequencer position. (R193, R195) -/
def Obligations.EdifactTripleEmitsFourCharacters : Prop :=
  ∀ (s : State) (v0 v1 v2 v3 : Nat), (∀ v ∈ [v0, v1, v2, v3], v ≤ 63 ∧ v ≠ 31) →
    ∃ t, exec (.edf v0 v1 v2 v3) s = .next t ∧
      Appends s t ([v0, v1, v2, v3].map fun v => byte (if v ≤ 30 then v ||| 0x40 else v)) ∧
      t = { s with out := t.out, olen := t.olen, idx := s.idx + 3, upc := t.upc }

/-- Where j is the least index with v[j] = 31, EDF appends the characters of the values before j only; MODE is ASCII and
USH 0 afterwards; IDX advances by 1, 2, 3, 3 for j = 0, 1, 2, 3; later values have no effect, and nothing else is
changed but the sequencer position. EDF.SHORT sets MODE to ASCII and clears USH with IDX unchanged. The sequencer
position UPC is the model's own field (log 4). The spec marks a part of R194 as its own decision, derivation or
general knowledge (log 17). (R194, R191) -/
def Obligations.EdifactUnlatchEndsTheTriple : Prop :=
  ∀ (s : State),
    (∀ (v0 v1 v2 v3 j r : Nat), (∀ v ∈ [v0, v1, v2, v3], v ≤ 63) →
      (j, r) ∈ [(0, 1), (1, 2), (2, 3), (3, 3)] → [v0, v1, v2, v3][j]? = some 31 →
      (∀ k, k < j → [v0, v1, v2, v3][k]? ≠ some 31) →
      ∃ t, exec (.edf v0 v1 v2 v3) s = .next t ∧
        Appends s t (([v0, v1, v2, v3].take j).map fun v => byte (if v ≤ 30 then v ||| 0x40 else v)) ∧
        t = { s with out := t.out, olen := t.olen, mode := .ascii, ush := false, idx := s.idx + r, upc := .plLoop }) ∧
    exec .edfShort s = .next { s with mode := .ascii, ush := false, upc := .plLoop }

/-- E.LOW with v up to 30 appends v | 0x40 and E.HIGH with v from 32 to 63 appends v, changing nothing else; E.UNL at
place j sets MODE to ASCII, clears USH and advances IDX by 1, 2, 3, 3 for j = 0, 1, 2, 3, changing nothing else
(that the row has its place as operand is the model's reading, log 21). The spec marks a part of R194 as its own
decision, derivation or general knowledge (log 17). (R194, R195) -/
def Obligations.EdifactValueRowsRun : Prop :=
  ∀ (s : State) (v : Nat),
    (v ≤ 30 → ∃ t, exec (.eLow v) s = .next t ∧ Appends s t [byte (v ||| 0x40)] ∧
      t = { s with out := t.out, olen := t.olen }) ∧
    (32 ≤ v → v ≤ 63 → ∃ t, exec (.eHigh v) s = .next t ∧ Appends s t [byte v] ∧
      t = { s with out := t.out, olen := t.olen }) ∧
    (∀ (j r : Nat), (j, r) ∈ [(0, 1), (1, 2), (2, 3), (3, 3)] →
      exec (.eUnl j) s = .next { s with mode := .ascii, ush := false, idx := s.idx + r })

/-- Where the field fits in DW and CW holds its data codewords ws: B256.L0 (all codewords after the length byte),
B256.L1 (d0 of them, 1..249) and B256.L2 (250 (d0 - 249) + d1 of them after a second length byte) append unrand of
each at its own index; IDX moves past the field, MODE is ASCII and USH 0 afterwards, and nothing else is changed but
the sequencer position. The sequencer position UPC is the model's own field (log 4). The spec marks a part of R202,
R203, R205 as its own decision, derivation or general knowledge (log 17). (R202, R203, R205) -/
def Obligations.Base256FieldEmitsItsData : Prop :=
  ∀ (s : State) (i : Instr) (start : Nat) (ws : List Byte),
    ((i = .b256L0 ∧ s.idx < s.dw ∧ start = s.idx + 1 ∧ ws.length = s.dw - (s.idx + 1)) ∨
     (∃ d0 : Byte, 1 ≤ d0.toNat ∧ d0.toNat ≤ 249 ∧ i = .b256L1 d0 ∧ start = s.idx + 1 ∧ ws.length = d0.toNat) ∨
     (∃ d0 d1 : Byte, 250 ≤ d0.toNat ∧ i = .b256L2 d0 (some d1) ∧ start = s.idx + 2 ∧
       ws.length = 250 * (d0.toNat - 249) + d1.toNat)) →
    start + ws.length ≤ s.dw → Holds s start ws →
    ∃ t, exec i s = .next t ∧ Appends s t (ws.mapIdx fun k w => unrand w (start + k)) ∧
      t = { s with out := t.out, olen := t.olen, idx := start + ws.length, mode := .ascii, ush := false, upc := .plLoop }

/-- B256.L1 with IDX + 1 + d0 above DW, B256.L2 with IDX + 2 + its length above DW, and B256.L2 without a second length
byte answer the next state of R216 with CAUSE B256_OVERRUN and FIDX the index of the first length byte; OUT's loss
of its values is the model's form of its being invalid (log 8). The spec marks a part of R203, R216 as its own
decision, derivation or general knowledge (log 17). (R203, R204, R216) -/
def Obligations.Base256OverrunFails : Prop :=
  ∀ (s : State) (d0 : Byte),
    (1 ≤ d0.toNat → d0.toNat ≤ 249 → s.dw < s.idx + 1 + d0.toNat →
      exec (.b256L1 d0) s = .next (payloadFault .b256Overrun s)) ∧
    (250 ≤ d0.toNat → exec (.b256L2 d0 none) s = .next (payloadFault .b256Overrun s)) ∧
    (∀ d1 : Byte, 250 ≤ d0.toNat → s.dw < s.idx + 2 + (250 * (d0.toNat - 249) + d1.toNat) →
      exec (.b256L2 d0 (some d1)) s = .next (payloadFault .b256Overrun s))

/-- State.reset has PHASE IDLE (R230); no cell of CW or OUT has a value (the model's form of unspecified, log 3); and it
meets the invariant. The other register values are the model's choice (log 2) and are not stated. The spec marks a
part of R230 as its own decision, derivation or general knowledge (log 17). (R33, R230) -/
def Obligations.ResetIsIdleAndMeetsTheInvariant : Prop :=
  State.reset.phase = .idle ∧ (∀ a, State.reset.cw.read a = none ∧ State.reset.out.read a = none) ∧ Inv State.reset

/-- For every state that meets Inv (the memories in canonical form, OUT filled below OLEN, the sequencer position legal,
IDX at most DW, the flags as their mode allows, the output at most 2 IDX bytes or 2 IDX + 5 after a macro prefix,
the loaded stream complete, the result registers at DONE as the table of R238), if step answers a next state, that
state meets Inv. The spec marks a part of R17, R20, R21, R31, R48, R177, R238 as its own decision, derivation or
general knowledge (log 17). (R17, R20, R21, R31, R48, R83, R131, R177, R238) -/
def Obligations.StepKeepsTheInvariant : Prop :=
  ∀ s t : State, Inv s → step s = .next t → Inv t

/-- For every state that meets the invariant in which PHASE is RS or PAYLOAD, step answers a next state: no rule can
raise an address fault, every group decodes, and every exception is a next state. The spec marks a part of R42,
R115, R225 as its own decision, derivation or general knowledge (log 17). (R42, R87, R115, R225) -/
def Obligations.RunningBlockNeverStops : Prop :=
  ∀ s : State, Inv s → s.busy = true → ∃ t, step s = .next t

/-- From every state that meets the invariant at the start of the RS phase, with no reset in the host's list, some
number of steps up to 6 DW + 13 leads to PHASE DONE (nine micro-operations of the RS phase, at most 2 DW iterations
of three steps of the payload loop, and four more); the count of steps is the model's granularity (log 4). The spec
marks a part of R115 as its own decision, derivation or general knowledge (log 17). (R84, R87, R115, R131) -/
def Obligations.EveryTransactionEnds : Prop :=
  ∀ s : State, Inv s → s.phase = .rs → s.upc = .rsSynd → s.undisturbed →
    ∃ k t, k ≤ 6 * s.dw + 13 ∧ Host.Core.run Sys2Proof.core k s = .next t ∧ t.phase = .done

/-- If START is accepted in two states with the same DW, EW and contents of CW[0..n-1] and no further host events, then
whatever else differs between them (the output, the working registers, the payload registers, earlier results),
after any number of steps of both the host sees the same: nothing before DONE, and the same RESULT, CAUSE, FIDX,
RSSTAT, OUT and CW at DONE. The spec marks a part of R34, R239 as its own decision, derivation or general knowledge
(log 17). (R32, R34, R86, R239) -/
def Obligations.TransactionIsAFunctionOfItsInput : Prop :=
  ∀ s s' t t' : State, SameInput s s' → s.host = [] → s'.host = [] →
    exec .start s = .next t → exec .start s' = .next t' →
    ∀ (k : Nat) (u u' : State), Host.Core.run Sys2Proof.core k t = .next u →
      Host.Core.run Sys2Proof.core k t' = .next u' → u.visible = u'.visible
end

