-- ==== Sys2Proof/Laws/State.lean ====
section
/-! SUPPORT. What each named update does to each field of the state: one lemma per field per update. -/

namespace Sys2Proof.Machine

@[simp] theorem writeCw_dw (i : Nat) (b : Byte) (s : State) : (writeCw i b s).dw = s.dw := rfl
@[simp] theorem writeCw_ew (i : Nat) (b : Byte) (s : State) : (writeCw i b s).ew = s.ew := rfl
@[simp] theorem writeCw_dwLoaded (i : Nat) (b : Byte) (s : State) : (writeCw i b s).dwLoaded = s.dwLoaded := rfl
@[simp] theorem writeCw_ewLoaded (i : Nat) (b : Byte) (s : State) : (writeCw i b s).ewLoaded = s.ewLoaded := rfl
@[simp] theorem writeCw_phase (i : Nat) (b : Byte) (s : State) : (writeCw i b s).phase = s.phase := rfl
@[simp] theorem writeCw_cw (i : Nat) (b : Byte) (s : State) : (writeCw i b s).cw = s.cw.write i b := rfl
@[simp] theorem writeCw_out (i : Nat) (b : Byte) (s : State) : (writeCw i b s).out = s.out := rfl
@[simp] theorem writeCw_olen (i : Nat) (b : Byte) (s : State) : (writeCw i b s).olen = s.olen := rfl
@[simp] theorem writeCw_synd (i : Nat) (b : Byte) (s : State) : (writeCw i b s).synd = s.synd := rfl
@[simp] theorem writeCw_sig (i : Nat) (b : Byte) (s : State) : (writeCw i b s).sig = s.sig := rfl
@[simp] theorem writeCw_nroot (i : Nat) (b : Byte) (s : State) : (writeCw i b s).nroot = s.nroot := rfl
@[simp] theorem writeCw_loc (i : Nat) (b : Byte) (s : State) : (writeCw i b s).loc = s.loc := rfl
@[simp] theorem writeCw_y (i : Nat) (b : Byte) (s : State) : (writeCw i b s).y = s.y := rfl
@[simp] theorem writeCw_rsstat (i : Nat) (b : Byte) (s : State) : (writeCw i b s).rsstat = s.rsstat := rfl
@[simp] theorem writeCw_idx (i : Nat) (b : Byte) (s : State) : (writeCw i b s).idx = s.idx := rfl
@[simp] theorem writeCw_mode (i : Nat) (b : Byte) (s : State) : (writeCw i b s).mode = s.mode := rfl
@[simp] theorem writeCw_ush (i : Nat) (b : Byte) (s : State) : (writeCw i b s).ush = s.ush := rfl
@[simp] theorem writeCw_sset (i : Nat) (b : Byte) (s : State) : (writeCw i b s).sset = s.sset := rfl
@[simp] theorem writeCw_macroReg (i : Nat) (b : Byte) (s : State) : (writeCw i b s).macroReg = s.macroReg := rfl
@[simp] theorem writeCw_result (i : Nat) (b : Byte) (s : State) : (writeCw i b s).result = s.result := rfl
@[simp] theorem writeCw_cause (i : Nat) (b : Byte) (s : State) : (writeCw i b s).cause = s.cause := rfl
@[simp] theorem writeCw_fidx (i : Nat) (b : Byte) (s : State) : (writeCw i b s).fidx = s.fidx := rfl
@[simp] theorem writeCw_upc (i : Nat) (b : Byte) (s : State) : (writeCw i b s).upc = s.upc := rfl
@[simp] theorem writeCw_host (i : Nat) (b : Byte) (s : State) : (writeCw i b s).host = s.host := rfl
@[simp] theorem writeCw_n (i : Nat) (b : Byte) (s : State) : (writeCw i b s).n = s.n := rfl
@[simp] theorem writeCw_t (i : Nat) (b : Byte) (s : State) : (writeCw i b s).t = s.t := rfl

@[simp] theorem emit_dw (b : Byte) (s : State) : (emit b s).dw = s.dw := rfl
@[simp] theorem emit_ew (b : Byte) (s : State) : (emit b s).ew = s.ew := rfl
@[simp] theorem emit_dwLoaded (b : Byte) (s : State) : (emit b s).dwLoaded = s.dwLoaded := rfl
@[simp] theorem emit_ewLoaded (b : Byte) (s : State) : (emit b s).ewLoaded = s.ewLoaded := rfl
@[simp] theorem emit_phase (b : Byte) (s : State) : (emit b s).phase = s.phase := rfl
@[simp] theorem emit_cw (b : Byte) (s : State) : (emit b s).cw = s.cw := rfl
@[simp] theorem emit_out (b : Byte) (s : State) : (emit b s).out = s.out.write s.olen b := rfl
@[simp] theorem emit_olen (b : Byte) (s : State) : (emit b s).olen = s.olen + 1 := rfl
@[simp] theorem emit_synd (b : Byte) (s : State) : (emit b s).synd = s.synd := rfl
@[simp] theorem emit_sig (b : Byte) (s : State) : (emit b s).sig = s.sig := rfl
@[simp] theorem emit_nroot (b : Byte) (s : State) : (emit b s).nroot = s.nroot := rfl
@[simp] theorem emit_loc (b : Byte) (s : State) : (emit b s).loc = s.loc := rfl
@[simp] theorem emit_y (b : Byte) (s : State) : (emit b s).y = s.y := rfl
@[simp] theorem emit_rsstat (b : Byte) (s : State) : (emit b s).rsstat = s.rsstat := rfl
@[simp] theorem emit_idx (b : Byte) (s : State) : (emit b s).idx = s.idx := rfl
@[simp] theorem emit_mode (b : Byte) (s : State) : (emit b s).mode = s.mode := rfl
@[simp] theorem emit_ush (b : Byte) (s : State) : (emit b s).ush = s.ush := rfl
@[simp] theorem emit_sset (b : Byte) (s : State) : (emit b s).sset = s.sset := rfl
@[simp] theorem emit_macroReg (b : Byte) (s : State) : (emit b s).macroReg = s.macroReg := rfl
@[simp] theorem emit_result (b : Byte) (s : State) : (emit b s).result = s.result := rfl
@[simp] theorem emit_cause (b : Byte) (s : State) : (emit b s).cause = s.cause := rfl
@[simp] theorem emit_fidx (b : Byte) (s : State) : (emit b s).fidx = s.fidx := rfl
@[simp] theorem emit_upc (b : Byte) (s : State) : (emit b s).upc = s.upc := rfl
@[simp] theorem emit_host (b : Byte) (s : State) : (emit b s).host = s.host := rfl
@[simp] theorem emit_n (b : Byte) (s : State) : (emit b s).n = s.n := rfl
@[simp] theorem emit_t (b : Byte) (s : State) : (emit b s).t = s.t := rfl

@[simp] theorem goto_dw (u : Micro) (s : State) : (goto u s).dw = s.dw := rfl
@[simp] theorem goto_ew (u : Micro) (s : State) : (goto u s).ew = s.ew := rfl
@[simp] theorem goto_dwLoaded (u : Micro) (s : State) : (goto u s).dwLoaded = s.dwLoaded := rfl
@[simp] theorem goto_ewLoaded (u : Micro) (s : State) : (goto u s).ewLoaded = s.ewLoaded := rfl
@[simp] theorem goto_phase (u : Micro) (s : State) : (goto u s).phase = s.phase := rfl
@[simp] theorem goto_cw (u : Micro) (s : State) : (goto u s).cw = s.cw := rfl
@[simp] theorem goto_out (u : Micro) (s : State) : (goto u s).out = s.out := rfl
@[simp] theorem goto_olen (u : Micro) (s : State) : (goto u s).olen = s.olen := rfl
@[simp] theorem goto_synd (u : Micro) (s : State) : (goto u s).synd = s.synd := rfl
@[simp] theorem goto_sig (u : Micro) (s : State) : (goto u s).sig = s.sig := rfl
@[simp] theorem goto_nroot (u : Micro) (s : State) : (goto u s).nroot = s.nroot := rfl
@[simp] theorem goto_loc (u : Micro) (s : State) : (goto u s).loc = s.loc := rfl
@[simp] theorem goto_y (u : Micro) (s : State) : (goto u s).y = s.y := rfl
@[simp] theorem goto_rsstat (u : Micro) (s : State) : (goto u s).rsstat = s.rsstat := rfl
@[simp] theorem goto_idx (u : Micro) (s : State) : (goto u s).idx = s.idx := rfl
@[simp] theorem goto_mode (u : Micro) (s : State) : (goto u s).mode = s.mode := rfl
@[simp] theorem goto_ush (u : Micro) (s : State) : (goto u s).ush = s.ush := rfl
@[simp] theorem goto_sset (u : Micro) (s : State) : (goto u s).sset = s.sset := rfl
@[simp] theorem goto_macroReg (u : Micro) (s : State) : (goto u s).macroReg = s.macroReg := rfl
@[simp] theorem goto_result (u : Micro) (s : State) : (goto u s).result = s.result := rfl
@[simp] theorem goto_cause (u : Micro) (s : State) : (goto u s).cause = s.cause := rfl
@[simp] theorem goto_fidx (u : Micro) (s : State) : (goto u s).fidx = s.fidx := rfl
@[simp] theorem goto_upc (u : Micro) (s : State) : (goto u s).upc = u := rfl
@[simp] theorem goto_host (u : Micro) (s : State) : (goto u s).host = s.host := rfl
@[simp] theorem goto_n (u : Micro) (s : State) : (goto u s).n = s.n := rfl
@[simp] theorem goto_t (u : Micro) (s : State) : (goto u s).t = s.t := rfl

@[simp] theorem withHost_dw (q : List HostEvent) (s : State) : (withHost q s).dw = s.dw := rfl
@[simp] theorem withHost_ew (q : List HostEvent) (s : State) : (withHost q s).ew = s.ew := rfl
@[simp] theorem withHost_dwLoaded (q : List HostEvent) (s : State) : (withHost q s).dwLoaded = s.dwLoaded := rfl
@[simp] theorem withHost_ewLoaded (q : List HostEvent) (s : State) : (withHost q s).ewLoaded = s.ewLoaded := rfl
@[simp] theorem withHost_phase (q : List HostEvent) (s : State) : (withHost q s).phase = s.phase := rfl
@[simp] theorem withHost_cw (q : List HostEvent) (s : State) : (withHost q s).cw = s.cw := rfl
@[simp] theorem withHost_out (q : List HostEvent) (s : State) : (withHost q s).out = s.out := rfl
@[simp] theorem withHost_olen (q : List HostEvent) (s : State) : (withHost q s).olen = s.olen := rfl
@[simp] theorem withHost_synd (q : List HostEvent) (s : State) : (withHost q s).synd = s.synd := rfl
@[simp] theorem withHost_sig (q : List HostEvent) (s : State) : (withHost q s).sig = s.sig := rfl
@[simp] theorem withHost_nroot (q : List HostEvent) (s : State) : (withHost q s).nroot = s.nroot := rfl
@[simp] theorem withHost_loc (q : List HostEvent) (s : State) : (withHost q s).loc = s.loc := rfl
@[simp] theorem withHost_y (q : List HostEvent) (s : State) : (withHost q s).y = s.y := rfl
@[simp] theorem withHost_rsstat (q : List HostEvent) (s : State) : (withHost q s).rsstat = s.rsstat := rfl
@[simp] theorem withHost_idx (q : List HostEvent) (s : State) : (withHost q s).idx = s.idx := rfl
@[simp] theorem withHost_mode (q : List HostEvent) (s : State) : (withHost q s).mode = s.mode := rfl
@[simp] theorem withHost_ush (q : List HostEvent) (s : State) : (withHost q s).ush = s.ush := rfl
@[simp] theorem withHost_sset (q : List HostEvent) (s : State) : (withHost q s).sset = s.sset := rfl
@[simp] theorem withHost_macroReg (q : List HostEvent) (s : State) : (withHost q s).macroReg = s.macroReg := rfl
@[simp] theorem withHost_result (q : List HostEvent) (s : State) : (withHost q s).result = s.result := rfl
@[simp] theorem withHost_cause (q : List HostEvent) (s : State) : (withHost q s).cause = s.cause := rfl
@[simp] theorem withHost_fidx (q : List HostEvent) (s : State) : (withHost q s).fidx = s.fidx := rfl
@[simp] theorem withHost_upc (q : List HostEvent) (s : State) : (withHost q s).upc = s.upc := rfl
@[simp] theorem withHost_host (q : List HostEvent) (s : State) : (withHost q s).host = q := rfl
@[simp] theorem withHost_n (q : List HostEvent) (s : State) : (withHost q s).n = s.n := rfl
@[simp] theorem withHost_t (q : List HostEvent) (s : State) : (withHost q s).t = s.t := rfl

@[simp] theorem endGroup_dw (s : State) : (endGroup s).dw = s.dw := rfl
@[simp] theorem endGroup_ew (s : State) : (endGroup s).ew = s.ew := rfl
@[simp] theorem endGroup_dwLoaded (s : State) : (endGroup s).dwLoaded = s.dwLoaded := rfl
@[simp] theorem endGroup_ewLoaded (s : State) : (endGroup s).ewLoaded = s.ewLoaded := rfl
@[simp] theorem endGroup_phase (s : State) : (endGroup s).phase = s.phase := rfl
@[simp] theorem endGroup_cw (s : State) : (endGroup s).cw = s.cw := rfl
@[simp] theorem endGroup_out (s : State) : (endGroup s).out = s.out := rfl
@[simp] theorem endGroup_olen (s : State) : (endGroup s).olen = s.olen := rfl
@[simp] theorem endGroup_synd (s : State) : (endGroup s).synd = s.synd := rfl
@[simp] theorem endGroup_sig (s : State) : (endGroup s).sig = s.sig := rfl
@[simp] theorem endGroup_nroot (s : State) : (endGroup s).nroot = s.nroot := rfl
@[simp] theorem endGroup_loc (s : State) : (endGroup s).loc = s.loc := rfl
@[simp] theorem endGroup_y (s : State) : (endGroup s).y = s.y := rfl
@[simp] theorem endGroup_rsstat (s : State) : (endGroup s).rsstat = s.rsstat := rfl
@[simp] theorem endGroup_idx (s : State) : (endGroup s).idx = s.idx := rfl
@[simp] theorem endGroup_mode (s : State) : (endGroup s).mode = s.mode := rfl
@[simp] theorem endGroup_ush (s : State) : (endGroup s).ush = s.ush := rfl
@[simp] theorem endGroup_sset (s : State) : (endGroup s).sset = s.sset := rfl
@[simp] theorem endGroup_macroReg (s : State) : (endGroup s).macroReg = s.macroReg := rfl
@[simp] theorem endGroup_result (s : State) : (endGroup s).result = s.result := rfl
@[simp] theorem endGroup_cause (s : State) : (endGroup s).cause = s.cause := rfl
@[simp] theorem endGroup_fidx (s : State) : (endGroup s).fidx = s.fidx := rfl
@[simp] theorem endGroup_upc (s : State) : (endGroup s).upc = .plLoop := rfl
@[simp] theorem endGroup_host (s : State) : (endGroup s).host = s.host := rfl
@[simp] theorem endGroup_n (s : State) : (endGroup s).n = s.n := rfl
@[simp] theorem endGroup_t (s : State) : (endGroup s).t = s.t := rfl

@[simp] theorem raiseUnrecoverable_dw (s : State) : (raiseUnrecoverable s).dw = s.dw := rfl
@[simp] theorem raiseUnrecoverable_ew (s : State) : (raiseUnrecoverable s).ew = s.ew := rfl
@[simp] theorem raiseUnrecoverable_dwLoaded (s : State) : (raiseUnrecoverable s).dwLoaded = s.dwLoaded := rfl
@[simp] theorem raiseUnrecoverable_ewLoaded (s : State) : (raiseUnrecoverable s).ewLoaded = s.ewLoaded := rfl
@[simp] theorem raiseUnrecoverable_phase (s : State) : (raiseUnrecoverable s).phase = s.phase := rfl
@[simp] theorem raiseUnrecoverable_cw (s : State) : (raiseUnrecoverable s).cw = s.cw := rfl
@[simp] theorem raiseUnrecoverable_out (s : State) : (raiseUnrecoverable s).out = s.out := rfl
@[simp] theorem raiseUnrecoverable_olen (s : State) : (raiseUnrecoverable s).olen = s.olen := rfl
@[simp] theorem raiseUnrecoverable_synd (s : State) : (raiseUnrecoverable s).synd = s.synd := rfl
@[simp] theorem raiseUnrecoverable_sig (s : State) : (raiseUnrecoverable s).sig = s.sig := rfl
@[simp] theorem raiseUnrecoverable_nroot (s : State) : (raiseUnrecoverable s).nroot = s.nroot := rfl
@[simp] theorem raiseUnrecoverable_loc (s : State) : (raiseUnrecoverable s).loc = s.loc := rfl
@[simp] theorem raiseUnrecoverable_y (s : State) : (raiseUnrecoverable s).y = s.y := rfl
@[simp] theorem raiseUnrecoverable_rsstat (s : State) : (raiseUnrecoverable s).rsstat = .unrecoverable := rfl
@[simp] theorem raiseUnrecoverable_idx (s : State) : (raiseUnrecoverable s).idx = s.idx := rfl
@[simp] theorem raiseUnrecoverable_mode (s : State) : (raiseUnrecoverable s).mode = s.mode := rfl
@[simp] theorem raiseUnrecoverable_ush (s : State) : (raiseUnrecoverable s).ush = s.ush := rfl
@[simp] theorem raiseUnrecoverable_sset (s : State) : (raiseUnrecoverable s).sset = s.sset := rfl
@[simp] theorem raiseUnrecoverable_macroReg (s : State) : (raiseUnrecoverable s).macroReg = s.macroReg := rfl
@[simp] theorem raiseUnrecoverable_result (s : State) : (raiseUnrecoverable s).result = s.result := rfl
@[simp] theorem raiseUnrecoverable_cause (s : State) : (raiseUnrecoverable s).cause = s.cause := rfl
@[simp] theorem raiseUnrecoverable_fidx (s : State) : (raiseUnrecoverable s).fidx = s.fidx := rfl
@[simp] theorem raiseUnrecoverable_upc (s : State) : (raiseUnrecoverable s).upc = .seqBranch := rfl
@[simp] theorem raiseUnrecoverable_host (s : State) : (raiseUnrecoverable s).host = s.host := rfl
@[simp] theorem raiseUnrecoverable_n (s : State) : (raiseUnrecoverable s).n = s.n := rfl
@[simp] theorem raiseUnrecoverable_t (s : State) : (raiseUnrecoverable s).t = s.t := rfl

@[simp] theorem raiseInvalidPayload_dw (c : Cause) (s : State) : (raiseInvalidPayload c s).dw = s.dw := rfl
@[simp] theorem raiseInvalidPayload_ew (c : Cause) (s : State) : (raiseInvalidPayload c s).ew = s.ew := rfl
@[simp] theorem raiseInvalidPayload_dwLoaded (c : Cause) (s : State) : (raiseInvalidPayload c s).dwLoaded = s.dwLoaded := rfl
@[simp] theorem raiseInvalidPayload_ewLoaded (c : Cause) (s : State) : (raiseInvalidPayload c s).ewLoaded = s.ewLoaded := rfl
@[simp] theorem raiseInvalidPayload_phase (c : Cause) (s : State) : (raiseInvalidPayload c s).phase = .done := rfl
@[simp] theorem raiseInvalidPayload_cw (c : Cause) (s : State) : (raiseInvalidPayload c s).cw = s.cw := rfl
@[simp] theorem raiseInvalidPayload_out (c : Cause) (s : State) : (raiseInvalidPayload c s).out = [] := rfl
@[simp] theorem raiseInvalidPayload_olen (c : Cause) (s : State) : (raiseInvalidPayload c s).olen = 0 := rfl
@[simp] theorem raiseInvalidPayload_synd (c : Cause) (s : State) : (raiseInvalidPayload c s).synd = s.synd := rfl
@[simp] theorem raiseInvalidPayload_sig (c : Cause) (s : State) : (raiseInvalidPayload c s).sig = s.sig := rfl
@[simp] theorem raiseInvalidPayload_nroot (c : Cause) (s : State) : (raiseInvalidPayload c s).nroot = s.nroot := rfl
@[simp] theorem raiseInvalidPayload_loc (c : Cause) (s : State) : (raiseInvalidPayload c s).loc = s.loc := rfl
@[simp] theorem raiseInvalidPayload_y (c : Cause) (s : State) : (raiseInvalidPayload c s).y = s.y := rfl
@[simp] theorem raiseInvalidPayload_rsstat (c : Cause) (s : State) : (raiseInvalidPayload c s).rsstat = s.rsstat := rfl
@[simp] theorem raiseInvalidPayload_idx (c : Cause) (s : State) : (raiseInvalidPayload c s).idx = s.idx := rfl
@[simp] theorem raiseInvalidPayload_mode (c : Cause) (s : State) : (raiseInvalidPayload c s).mode = s.mode := rfl
@[simp] theorem raiseInvalidPayload_ush (c : Cause) (s : State) : (raiseInvalidPayload c s).ush = s.ush := rfl
@[simp] theorem raiseInvalidPayload_sset (c : Cause) (s : State) : (raiseInvalidPayload c s).sset = s.sset := rfl
@[simp] theorem raiseInvalidPayload_macroReg (c : Cause) (s : State) : (raiseInvalidPayload c s).macroReg = s.macroReg := rfl
@[simp] theorem raiseInvalidPayload_result (c : Cause) (s : State) : (raiseInvalidPayload c s).result = .payloadFail := rfl
@[simp] theorem raiseInvalidPayload_cause (c : Cause) (s : State) : (raiseInvalidPayload c s).cause = c := rfl
@[simp] theorem raiseInvalidPayload_fidx (c : Cause) (s : State) : (raiseInvalidPayload c s).fidx = s.idx := rfl
@[simp] theorem raiseInvalidPayload_upc (c : Cause) (s : State) : (raiseInvalidPayload c s).upc = s.upc := rfl
@[simp] theorem raiseInvalidPayload_host (c : Cause) (s : State) : (raiseInvalidPayload c s).host = s.host := rfl
@[simp] theorem raiseInvalidPayload_n (c : Cause) (s : State) : (raiseInvalidPayload c s).n = s.n := rfl
@[simp] theorem raiseInvalidPayload_t (c : Cause) (s : State) : (raiseInvalidPayload c s).t = s.t := rfl

@[simp] theorem latch_dw (m : Mode) (s : State) : (latch m s).dw = s.dw := rfl
@[simp] theorem latch_ew (m : Mode) (s : State) : (latch m s).ew = s.ew := rfl
@[simp] theorem latch_dwLoaded (m : Mode) (s : State) : (latch m s).dwLoaded = s.dwLoaded := rfl
@[simp] theorem latch_ewLoaded (m : Mode) (s : State) : (latch m s).ewLoaded = s.ewLoaded := rfl
@[simp] theorem latch_phase (m : Mode) (s : State) : (latch m s).phase = s.phase := rfl
@[simp] theorem latch_cw (m : Mode) (s : State) : (latch m s).cw = s.cw := rfl
@[simp] theorem latch_out (m : Mode) (s : State) : (latch m s).out = s.out := rfl
@[simp] theorem latch_olen (m : Mode) (s : State) : (latch m s).olen = s.olen := rfl
@[simp] theorem latch_synd (m : Mode) (s : State) : (latch m s).synd = s.synd := rfl
@[simp] theorem latch_sig (m : Mode) (s : State) : (latch m s).sig = s.sig := rfl
@[simp] theorem latch_nroot (m : Mode) (s : State) : (latch m s).nroot = s.nroot := rfl
@[simp] theorem latch_loc (m : Mode) (s : State) : (latch m s).loc = s.loc := rfl
@[simp] theorem latch_y (m : Mode) (s : State) : (latch m s).y = s.y := rfl
@[simp] theorem latch_rsstat (m : Mode) (s : State) : (latch m s).rsstat = s.rsstat := rfl
@[simp] theorem latch_idx (m : Mode) (s : State) : (latch m s).idx = s.idx := rfl
@[simp] theorem latch_mode (m : Mode) (s : State) : (latch m s).mode = m := rfl
@[simp] theorem latch_ush (m : Mode) (s : State) : (latch m s).ush = false := rfl
@[simp] theorem latch_sset (m : Mode) (s : State) : (latch m s).sset = s.sset := rfl
@[simp] theorem latch_macroReg (m : Mode) (s : State) : (latch m s).macroReg = s.macroReg := rfl
@[simp] theorem latch_result (m : Mode) (s : State) : (latch m s).result = s.result := rfl
@[simp] theorem latch_cause (m : Mode) (s : State) : (latch m s).cause = s.cause := rfl
@[simp] theorem latch_fidx (m : Mode) (s : State) : (latch m s).fidx = s.fidx := rfl
@[simp] theorem latch_upc (m : Mode) (s : State) : (latch m s).upc = s.upc := rfl
@[simp] theorem latch_host (m : Mode) (s : State) : (latch m s).host = s.host := rfl
@[simp] theorem latch_n (m : Mode) (s : State) : (latch m s).n = s.n := rfl
@[simp] theorem latch_t (m : Mode) (s : State) : (latch m s).t = s.t := rfl

@[simp] theorem latchShifted_dw (m : Mode) (s : State) : (latchShifted m s).dw = s.dw := rfl
@[simp] theorem latchShifted_ew (m : Mode) (s : State) : (latchShifted m s).ew = s.ew := rfl
@[simp] theorem latchShifted_dwLoaded (m : Mode) (s : State) : (latchShifted m s).dwLoaded = s.dwLoaded := rfl
@[simp] theorem latchShifted_ewLoaded (m : Mode) (s : State) : (latchShifted m s).ewLoaded = s.ewLoaded := rfl
@[simp] theorem latchShifted_phase (m : Mode) (s : State) : (latchShifted m s).phase = s.phase := rfl
@[simp] theorem latchShifted_cw (m : Mode) (s : State) : (latchShifted m s).cw = s.cw := rfl
@[simp] theorem latchShifted_out (m : Mode) (s : State) : (latchShifted m s).out = s.out := rfl
@[simp] theorem latchShifted_olen (m : Mode) (s : State) : (latchShifted m s).olen = s.olen := rfl
@[simp] theorem latchShifted_synd (m : Mode) (s : State) : (latchShifted m s).synd = s.synd := rfl
@[simp] theorem latchShifted_sig (m : Mode) (s : State) : (latchShifted m s).sig = s.sig := rfl
@[simp] theorem latchShifted_nroot (m : Mode) (s : State) : (latchShifted m s).nroot = s.nroot := rfl
@[simp] theorem latchShifted_loc (m : Mode) (s : State) : (latchShifted m s).loc = s.loc := rfl
@[simp] theorem latchShifted_y (m : Mode) (s : State) : (latchShifted m s).y = s.y := rfl
@[simp] theorem latchShifted_rsstat (m : Mode) (s : State) : (latchShifted m s).rsstat = s.rsstat := rfl
@[simp] theorem latchShifted_idx (m : Mode) (s : State) : (latchShifted m s).idx = s.idx := rfl
@[simp] theorem latchShifted_mode (m : Mode) (s : State) : (latchShifted m s).mode = m := rfl
@[simp] theorem latchShifted_ush (m : Mode) (s : State) : (latchShifted m s).ush = false := rfl
@[simp] theorem latchShifted_sset (m : Mode) (s : State) : (latchShifted m s).sset = .set0 := rfl
@[simp] theorem latchShifted_macroReg (m : Mode) (s : State) : (latchShifted m s).macroReg = s.macroReg := rfl
@[simp] theorem latchShifted_result (m : Mode) (s : State) : (latchShifted m s).result = s.result := rfl
@[simp] theorem latchShifted_cause (m : Mode) (s : State) : (latchShifted m s).cause = s.cause := rfl
@[simp] theorem latchShifted_fidx (m : Mode) (s : State) : (latchShifted m s).fidx = s.fidx := rfl
@[simp] theorem latchShifted_upc (m : Mode) (s : State) : (latchShifted m s).upc = s.upc := rfl
@[simp] theorem latchShifted_host (m : Mode) (s : State) : (latchShifted m s).host = s.host := rfl
@[simp] theorem latchShifted_n (m : Mode) (s : State) : (latchShifted m s).n = s.n := rfl
@[simp] theorem latchShifted_t (m : Mode) (s : State) : (latchShifted m s).t = s.t := rfl

@[simp] theorem endPairRun_dw (s : State) : (endPairRun s).dw = s.dw := rfl
@[simp] theorem endPairRun_ew (s : State) : (endPairRun s).ew = s.ew := rfl
@[simp] theorem endPairRun_dwLoaded (s : State) : (endPairRun s).dwLoaded = s.dwLoaded := rfl
@[simp] theorem endPairRun_ewLoaded (s : State) : (endPairRun s).ewLoaded = s.ewLoaded := rfl
@[simp] theorem endPairRun_phase (s : State) : (endPairRun s).phase = s.phase := rfl
@[simp] theorem endPairRun_cw (s : State) : (endPairRun s).cw = s.cw := rfl
@[simp] theorem endPairRun_out (s : State) : (endPairRun s).out = s.out := rfl
@[simp] theorem endPairRun_olen (s : State) : (endPairRun s).olen = s.olen := rfl
@[simp] theorem endPairRun_synd (s : State) : (endPairRun s).synd = s.synd := rfl
@[simp] theorem endPairRun_sig (s : State) : (endPairRun s).sig = s.sig := rfl
@[simp] theorem endPairRun_nroot (s : State) : (endPairRun s).nroot = s.nroot := rfl
@[simp] theorem endPairRun_loc (s : State) : (endPairRun s).loc = s.loc := rfl
@[simp] theorem endPairRun_y (s : State) : (endPairRun s).y = s.y := rfl
@[simp] theorem endPairRun_rsstat (s : State) : (endPairRun s).rsstat = s.rsstat := rfl
@[simp] theorem endPairRun_idx (s : State) : (endPairRun s).idx = s.idx := rfl
@[simp] theorem endPairRun_mode (s : State) : (endPairRun s).mode = .ascii := rfl
@[simp] theorem endPairRun_ush (s : State) : (endPairRun s).ush = false := rfl
@[simp] theorem endPairRun_sset (s : State) : (endPairRun s).sset = .set0 := rfl
@[simp] theorem endPairRun_macroReg (s : State) : (endPairRun s).macroReg = s.macroReg := rfl
@[simp] theorem endPairRun_result (s : State) : (endPairRun s).result = s.result := rfl
@[simp] theorem endPairRun_cause (s : State) : (endPairRun s).cause = s.cause := rfl
@[simp] theorem endPairRun_fidx (s : State) : (endPairRun s).fidx = s.fidx := rfl
@[simp] theorem endPairRun_upc (s : State) : (endPairRun s).upc = s.upc := rfl
@[simp] theorem endPairRun_host (s : State) : (endPairRun s).host = s.host := rfl
@[simp] theorem endPairRun_n (s : State) : (endPairRun s).n = s.n := rfl
@[simp] theorem endPairRun_t (s : State) : (endPairRun s).t = s.t := rfl

@[simp] theorem endRun_dw (s : State) : (endRun s).dw = s.dw := rfl
@[simp] theorem endRun_ew (s : State) : (endRun s).ew = s.ew := rfl
@[simp] theorem endRun_dwLoaded (s : State) : (endRun s).dwLoaded = s.dwLoaded := rfl
@[simp] theorem endRun_ewLoaded (s : State) : (endRun s).ewLoaded = s.ewLoaded := rfl
@[simp] theorem endRun_phase (s : State) : (endRun s).phase = s.phase := rfl
@[simp] theorem endRun_cw (s : State) : (endRun s).cw = s.cw := rfl
@[simp] theorem endRun_out (s : State) : (endRun s).out = s.out := rfl
@[simp] theorem endRun_olen (s : State) : (endRun s).olen = s.olen := rfl
@[simp] theorem endRun_synd (s : State) : (endRun s).synd = s.synd := rfl
@[simp] theorem endRun_sig (s : State) : (endRun s).sig = s.sig := rfl
@[simp] theorem endRun_nroot (s : State) : (endRun s).nroot = s.nroot := rfl
@[simp] theorem endRun_loc (s : State) : (endRun s).loc = s.loc := rfl
@[simp] theorem endRun_y (s : State) : (endRun s).y = s.y := rfl
@[simp] theorem endRun_rsstat (s : State) : (endRun s).rsstat = s.rsstat := rfl
@[simp] theorem endRun_idx (s : State) : (endRun s).idx = s.idx := rfl
@[simp] theorem endRun_mode (s : State) : (endRun s).mode = .ascii := rfl
@[simp] theorem endRun_ush (s : State) : (endRun s).ush = false := rfl
@[simp] theorem endRun_sset (s : State) : (endRun s).sset = s.sset := rfl
@[simp] theorem endRun_macroReg (s : State) : (endRun s).macroReg = s.macroReg := rfl
@[simp] theorem endRun_result (s : State) : (endRun s).result = s.result := rfl
@[simp] theorem endRun_cause (s : State) : (endRun s).cause = s.cause := rfl
@[simp] theorem endRun_fidx (s : State) : (endRun s).fidx = s.fidx := rfl
@[simp] theorem endRun_upc (s : State) : (endRun s).upc = s.upc := rfl
@[simp] theorem endRun_host (s : State) : (endRun s).host = s.host := rfl
@[simp] theorem endRun_n (s : State) : (endRun s).n = s.n := rfl
@[simp] theorem endRun_t (s : State) : (endRun s).t = s.t := rfl

@[simp] theorem setShift_dw (ss : ShiftSet) (s : State) : (setShift ss s).dw = s.dw := rfl
@[simp] theorem setShift_ew (ss : ShiftSet) (s : State) : (setShift ss s).ew = s.ew := rfl
@[simp] theorem setShift_dwLoaded (ss : ShiftSet) (s : State) : (setShift ss s).dwLoaded = s.dwLoaded := rfl
@[simp] theorem setShift_ewLoaded (ss : ShiftSet) (s : State) : (setShift ss s).ewLoaded = s.ewLoaded := rfl
@[simp] theorem setShift_phase (ss : ShiftSet) (s : State) : (setShift ss s).phase = s.phase := rfl
@[simp] theorem setShift_cw (ss : ShiftSet) (s : State) : (setShift ss s).cw = s.cw := rfl
@[simp] theorem setShift_out (ss : ShiftSet) (s : State) : (setShift ss s).out = s.out := rfl
@[simp] theorem setShift_olen (ss : ShiftSet) (s : State) : (setShift ss s).olen = s.olen := rfl
@[simp] theorem setShift_synd (ss : ShiftSet) (s : State) : (setShift ss s).synd = s.synd := rfl
@[simp] theorem setShift_sig (ss : ShiftSet) (s : State) : (setShift ss s).sig = s.sig := rfl
@[simp] theorem setShift_nroot (ss : ShiftSet) (s : State) : (setShift ss s).nroot = s.nroot := rfl
@[simp] theorem setShift_loc (ss : ShiftSet) (s : State) : (setShift ss s).loc = s.loc := rfl
@[simp] theorem setShift_y (ss : ShiftSet) (s : State) : (setShift ss s).y = s.y := rfl
@[simp] theorem setShift_rsstat (ss : ShiftSet) (s : State) : (setShift ss s).rsstat = s.rsstat := rfl
@[simp] theorem setShift_idx (ss : ShiftSet) (s : State) : (setShift ss s).idx = s.idx := rfl
@[simp] theorem setShift_mode (ss : ShiftSet) (s : State) : (setShift ss s).mode = s.mode := rfl
@[simp] theorem setShift_ush (ss : ShiftSet) (s : State) : (setShift ss s).ush = s.ush := rfl
@[simp] theorem setShift_sset (ss : ShiftSet) (s : State) : (setShift ss s).sset = ss := rfl
@[simp] theorem setShift_macroReg (ss : ShiftSet) (s : State) : (setShift ss s).macroReg = s.macroReg := rfl
@[simp] theorem setShift_result (ss : ShiftSet) (s : State) : (setShift ss s).result = s.result := rfl
@[simp] theorem setShift_cause (ss : ShiftSet) (s : State) : (setShift ss s).cause = s.cause := rfl
@[simp] theorem setShift_fidx (ss : ShiftSet) (s : State) : (setShift ss s).fidx = s.fidx := rfl
@[simp] theorem setShift_upc (ss : ShiftSet) (s : State) : (setShift ss s).upc = s.upc := rfl
@[simp] theorem setShift_host (ss : ShiftSet) (s : State) : (setShift ss s).host = s.host := rfl
@[simp] theorem setShift_n (ss : ShiftSet) (s : State) : (setShift ss s).n = s.n := rfl
@[simp] theorem setShift_t (ss : ShiftSet) (s : State) : (setShift ss s).t = s.t := rfl

@[simp] theorem setUsh_dw (s : State) : (setUsh s).dw = s.dw := rfl
@[simp] theorem setUsh_ew (s : State) : (setUsh s).ew = s.ew := rfl
@[simp] theorem setUsh_dwLoaded (s : State) : (setUsh s).dwLoaded = s.dwLoaded := rfl
@[simp] theorem setUsh_ewLoaded (s : State) : (setUsh s).ewLoaded = s.ewLoaded := rfl
@[simp] theorem setUsh_phase (s : State) : (setUsh s).phase = s.phase := rfl
@[simp] theorem setUsh_cw (s : State) : (setUsh s).cw = s.cw := rfl
@[simp] theorem setUsh_out (s : State) : (setUsh s).out = s.out := rfl
@[simp] theorem setUsh_olen (s : State) : (setUsh s).olen = s.olen := rfl
@[simp] theorem setUsh_synd (s : State) : (setUsh s).synd = s.synd := rfl
@[simp] theorem setUsh_sig (s : State) : (setUsh s).sig = s.sig := rfl
@[simp] theorem setUsh_nroot (s : State) : (setUsh s).nroot = s.nroot := rfl
@[simp] theorem setUsh_loc (s : State) : (setUsh s).loc = s.loc := rfl
@[simp] theorem setUsh_y (s : State) : (setUsh s).y = s.y := rfl
@[simp] theorem setUsh_rsstat (s : State) : (setUsh s).rsstat = s.rsstat := rfl
@[simp] theorem setUsh_idx (s : State) : (setUsh s).idx = s.idx := rfl
@[simp] theorem setUsh_mode (s : State) : (setUsh s).mode = s.mode := rfl
@[simp] theorem setUsh_ush (s : State) : (setUsh s).ush = true := rfl
@[simp] theorem setUsh_sset (s : State) : (setUsh s).sset = s.sset := rfl
@[simp] theorem setUsh_macroReg (s : State) : (setUsh s).macroReg = s.macroReg := rfl
@[simp] theorem setUsh_result (s : State) : (setUsh s).result = s.result := rfl
@[simp] theorem setUsh_cause (s : State) : (setUsh s).cause = s.cause := rfl
@[simp] theorem setUsh_fidx (s : State) : (setUsh s).fidx = s.fidx := rfl
@[simp] theorem setUsh_upc (s : State) : (setUsh s).upc = s.upc := rfl
@[simp] theorem setUsh_host (s : State) : (setUsh s).host = s.host := rfl
@[simp] theorem setUsh_n (s : State) : (setUsh s).n = s.n := rfl
@[simp] theorem setUsh_t (s : State) : (setUsh s).t = s.t := rfl

@[simp] theorem advance_dw (k : Nat) (s : State) : (advance k s).dw = s.dw := rfl
@[simp] theorem advance_ew (k : Nat) (s : State) : (advance k s).ew = s.ew := rfl
@[simp] theorem advance_dwLoaded (k : Nat) (s : State) : (advance k s).dwLoaded = s.dwLoaded := rfl
@[simp] theorem advance_ewLoaded (k : Nat) (s : State) : (advance k s).ewLoaded = s.ewLoaded := rfl
@[simp] theorem advance_phase (k : Nat) (s : State) : (advance k s).phase = s.phase := rfl
@[simp] theorem advance_cw (k : Nat) (s : State) : (advance k s).cw = s.cw := rfl
@[simp] theorem advance_out (k : Nat) (s : State) : (advance k s).out = s.out := rfl
@[simp] theorem advance_olen (k : Nat) (s : State) : (advance k s).olen = s.olen := rfl
@[simp] theorem advance_synd (k : Nat) (s : State) : (advance k s).synd = s.synd := rfl
@[simp] theorem advance_sig (k : Nat) (s : State) : (advance k s).sig = s.sig := rfl
@[simp] theorem advance_nroot (k : Nat) (s : State) : (advance k s).nroot = s.nroot := rfl
@[simp] theorem advance_loc (k : Nat) (s : State) : (advance k s).loc = s.loc := rfl
@[simp] theorem advance_y (k : Nat) (s : State) : (advance k s).y = s.y := rfl
@[simp] theorem advance_rsstat (k : Nat) (s : State) : (advance k s).rsstat = s.rsstat := rfl
@[simp] theorem advance_idx (k : Nat) (s : State) : (advance k s).idx = s.idx + k := rfl
@[simp] theorem advance_mode (k : Nat) (s : State) : (advance k s).mode = s.mode := rfl
@[simp] theorem advance_ush (k : Nat) (s : State) : (advance k s).ush = s.ush := rfl
@[simp] theorem advance_sset (k : Nat) (s : State) : (advance k s).sset = s.sset := rfl
@[simp] theorem advance_macroReg (k : Nat) (s : State) : (advance k s).macroReg = s.macroReg := rfl
@[simp] theorem advance_result (k : Nat) (s : State) : (advance k s).result = s.result := rfl
@[simp] theorem advance_cause (k : Nat) (s : State) : (advance k s).cause = s.cause := rfl
@[simp] theorem advance_fidx (k : Nat) (s : State) : (advance k s).fidx = s.fidx := rfl
@[simp] theorem advance_upc (k : Nat) (s : State) : (advance k s).upc = s.upc := rfl
@[simp] theorem advance_host (k : Nat) (s : State) : (advance k s).host = s.host := rfl
@[simp] theorem advance_n (k : Nat) (s : State) : (advance k s).n = s.n := rfl
@[simp] theorem advance_t (k : Nat) (s : State) : (advance k s).t = s.t := rfl

@[simp] theorem emitUs_dw (b : Nat) (s : State) : (emitUs b s).dw = s.dw := by
  by_cases h : s.ush <;> simp [emitUs, h]
@[simp] theorem emitUs_ew (b : Nat) (s : State) : (emitUs b s).ew = s.ew := by
  by_cases h : s.ush <;> simp [emitUs, h]
@[simp] theorem emitUs_dwLoaded (b : Nat) (s : State) : (emitUs b s).dwLoaded = s.dwLoaded := by
  by_cases h : s.ush <;> simp [emitUs, h]
@[simp] theorem emitUs_ewLoaded (b : Nat) (s : State) : (emitUs b s).ewLoaded = s.ewLoaded := by
  by_cases h : s.ush <;> simp [emitUs, h]
@[simp] theorem emitUs_phase (b : Nat) (s : State) : (emitUs b s).phase = s.phase := by
  by_cases h : s.ush <;> simp [emitUs, h]
@[simp] theorem emitUs_cw (b : Nat) (s : State) : (emitUs b s).cw = s.cw := by
  by_cases h : s.ush <;> simp [emitUs, h]
@[simp] theorem emitUs_synd (b : Nat) (s : State) : (emitUs b s).synd = s.synd := by
  by_cases h : s.ush <;> simp [emitUs, h]
@[simp] theorem emitUs_sig (b : Nat) (s : State) : (emitUs b s).sig = s.sig := by
  by_cases h : s.ush <;> simp [emitUs, h]
@[simp] theorem emitUs_nroot (b : Nat) (s : State) : (emitUs b s).nroot = s.nroot := by
  by_cases h : s.ush <;> simp [emitUs, h]
@[simp] theorem emitUs_loc (b : Nat) (s : State) : (emitUs b s).loc = s.loc := by
  by_cases h : s.ush <;> simp [emitUs, h]
@[simp] theorem emitUs_y (b : Nat) (s : State) : (emitUs b s).y = s.y := by
  by_cases h : s.ush <;> simp [emitUs, h]
@[simp] theorem emitUs_rsstat (b : Nat) (s : State) : (emitUs b s).rsstat = s.rsstat := by
  by_cases h : s.ush <;> simp [emitUs, h]
@[simp] theorem emitUs_idx (b : Nat) (s : State) : (emitUs b s).idx = s.idx := by
  by_cases h : s.ush <;> simp [emitUs, h]
@[simp] theorem emitUs_mode (b : Nat) (s : State) : (emitUs b s).mode = s.mode := by
  by_cases h : s.ush <;> simp [emitUs, h]
@[simp] theorem emitUs_ush (b : Nat) (s : State) : (emitUs b s).ush = false := by
  by_cases h : s.ush <;> simp [emitUs, h]
@[simp] theorem emitUs_sset (b : Nat) (s : State) : (emitUs b s).sset = s.sset := by
  by_cases h : s.ush <;> simp [emitUs, h]
@[simp] theorem emitUs_macroReg (b : Nat) (s : State) : (emitUs b s).macroReg = s.macroReg := by
  by_cases h : s.ush <;> simp [emitUs, h]
@[simp] theorem emitUs_result (b : Nat) (s : State) : (emitUs b s).result = s.result := by
  by_cases h : s.ush <;> simp [emitUs, h]
@[simp] theorem emitUs_cause (b : Nat) (s : State) : (emitUs b s).cause = s.cause := by
  by_cases h : s.ush <;> simp [emitUs, h]
@[simp] theorem emitUs_fidx (b : Nat) (s : State) : (emitUs b s).fidx = s.fidx := by
  by_cases h : s.ush <;> simp [emitUs, h]
@[simp] theorem emitUs_upc (b : Nat) (s : State) : (emitUs b s).upc = s.upc := by
  by_cases h : s.ush <;> simp [emitUs, h]
@[simp] theorem emitUs_host (b : Nat) (s : State) : (emitUs b s).host = s.host := by
  by_cases h : s.ush <;> simp [emitUs, h]
@[simp] theorem emitUs_out (b : Nat) (s : State) :
    (emitUs b s).out = s.out.write s.olen (usByte s b) := by
  by_cases h : s.ush <;> simp [emitUs, usByte, h]
@[simp] theorem emitUs_olen (b : Nat) (s : State) : (emitUs b s).olen = s.olen + 1 := by
  by_cases h : s.ush <;> simp [emitUs, h]

@[simp] theorem emitAll_dw (bs : List Byte) (s : State) : (emitAll bs s).dw = s.dw := by
  induction bs generalizing s with
  | nil => rfl
  | cons b bs ih => simp [emitAll, ih]
@[simp] theorem emitAll_ew (bs : List Byte) (s : State) : (emitAll bs s).ew = s.ew := by
  induction bs generalizing s with
  | nil => rfl
  | cons b bs ih => simp [emitAll, ih]
@[simp] theorem emitAll_dwLoaded (bs : List Byte) (s : State) : (emitAll bs s).dwLoaded = s.dwLoaded := by
  induction bs generalizing s with
  | nil => rfl
  | cons b bs ih => simp [emitAll, ih]
@[simp] theorem emitAll_ewLoaded (bs : List Byte) (s : State) : (emitAll bs s).ewLoaded = s.ewLoaded := by
  induction bs generalizing s with
  | nil => rfl
  | cons b bs ih => simp [emitAll, ih]
@[simp] theorem emitAll_phase (bs : List Byte) (s : State) : (emitAll bs s).phase = s.phase := by
  induction bs generalizing s with
  | nil => rfl
  | cons b bs ih => simp [emitAll, ih]
@[simp] theorem emitAll_cw (bs : List Byte) (s : State) : (emitAll bs s).cw = s.cw := by
  induction bs generalizing s with
  | nil => rfl
  | cons b bs ih => simp [emitAll, ih]
@[simp] theorem emitAll_synd (bs : List Byte) (s : State) : (emitAll bs s).synd = s.synd := by
  induction bs generalizing s with
  | nil => rfl
  | cons b bs ih => simp [emitAll, ih]
@[simp] theorem emitAll_sig (bs : List Byte) (s : State) : (emitAll bs s).sig = s.sig := by
  induction bs generalizing s with
  | nil => rfl
  | cons b bs ih => simp [emitAll, ih]
@[simp] theorem emitAll_nroot (bs : List Byte) (s : State) : (emitAll bs s).nroot = s.nroot := by
  induction bs generalizing s with
  | nil => rfl
  | cons b bs ih => simp [emitAll, ih]
@[simp] theorem emitAll_loc (bs : List Byte) (s : State) : (emitAll bs s).loc = s.loc := by
  induction bs generalizing s with
  | nil => rfl
  | cons b bs ih => simp [emitAll, ih]
@[simp] theorem emitAll_y (bs : List Byte) (s : State) : (emitAll bs s).y = s.y := by
  induction bs generalizing s with
  | nil => rfl
  | cons b bs ih => simp [emitAll, ih]
@[simp] theorem emitAll_rsstat (bs : List Byte) (s : State) : (emitAll bs s).rsstat = s.rsstat := by
  induction bs generalizing s with
  | nil => rfl
  | cons b bs ih => simp [emitAll, ih]
@[simp] theorem emitAll_idx (bs : List Byte) (s : State) : (emitAll bs s).idx = s.idx := by
  induction bs generalizing s with
  | nil => rfl
  | cons b bs ih => simp [emitAll, ih]
@[simp] theorem emitAll_mode (bs : List Byte) (s : State) : (emitAll bs s).mode = s.mode := by
  induction bs generalizing s with
  | nil => rfl
  | cons b bs ih => simp [emitAll, ih]
@[simp] theorem emitAll_ush (bs : List Byte) (s : State) : (emitAll bs s).ush = s.ush := by
  induction bs generalizing s with
  | nil => rfl
  | cons b bs ih => simp [emitAll, ih]
@[simp] theorem emitAll_sset (bs : List Byte) (s : State) : (emitAll bs s).sset = s.sset := by
  induction bs generalizing s with
  | nil => rfl
  | cons b bs ih => simp [emitAll, ih]
@[simp] theorem emitAll_macroReg (bs : List Byte) (s : State) : (emitAll bs s).macroReg = s.macroReg := by
  induction bs generalizing s with
  | nil => rfl
  | cons b bs ih => simp [emitAll, ih]
@[simp] theorem emitAll_result (bs : List Byte) (s : State) : (emitAll bs s).result = s.result := by
  induction bs generalizing s with
  | nil => rfl
  | cons b bs ih => simp [emitAll, ih]
@[simp] theorem emitAll_cause (bs : List Byte) (s : State) : (emitAll bs s).cause = s.cause := by
  induction bs generalizing s with
  | nil => rfl
  | cons b bs ih => simp [emitAll, ih]
@[simp] theorem emitAll_fidx (bs : List Byte) (s : State) : (emitAll bs s).fidx = s.fidx := by
  induction bs generalizing s with
  | nil => rfl
  | cons b bs ih => simp [emitAll, ih]
@[simp] theorem emitAll_upc (bs : List Byte) (s : State) : (emitAll bs s).upc = s.upc := by
  induction bs generalizing s with
  | nil => rfl
  | cons b bs ih => simp [emitAll, ih]
@[simp] theorem emitAll_host (bs : List Byte) (s : State) : (emitAll bs s).host = s.host := by
  induction bs generalizing s with
  | nil => rfl
  | cons b bs ih => simp [emitAll, ih]
@[simp] theorem emitAll_olen (bs : List Byte) (s : State) : (emitAll bs s).olen = s.olen + bs.length := by
  induction bs generalizing s with
  | nil => rfl
  | cons b bs ih => simp [emitAll, ih]; omega

end Sys2Proof.Machine
end

