-- ==== Sys2Proof/Laws/Memory.lean ====
section
/-! SUPPORT. The laws of a memory: a read after a write, and that every memory operation keeps the canonical form. -/

namespace Sys2Proof.Machine

theorem Mem.read_nil (a : Nat) : Mem.read [] a = none := rfl

theorem Mem.read_cons (c : Host.Cell) (m : Mem) (a : Nat) :
    Mem.read (c :: m) a = if c.1 = a then some c.2 else Mem.read m a := rfl

/-- A read after a write: the written cell reads as written, every other cell as before. -/
theorem Mem.read_write (m : Mem) (a : Nat) (b : Byte) (a' : Nat) :
    (Mem.write m a b).read a' = if a' = a then some b else m.read a' := by
  induction m with
  | nil =>
    by_cases h : a' = a
    · simp [Mem.write, Mem.read, h]
    · have : ¬ a = a' := fun e => h e.symm
      simp [Mem.write, Mem.read, h, this]
  | cons c m ih =>
    unfold Mem.write
    split
    · by_cases h : a' = a
      · simp [Mem.read, h]
      · have : ¬ a = a' := fun e => h e.symm
        simp [Mem.read, h, this]
    · split
      · rename_i h1
        by_cases h : a' = a
        · simp [Mem.read, h]
        · have h2 : ¬ a = a' := fun e => h e.symm
          have h3 : ¬ c.1 = a' := by rw [h1]; exact h2
          simp [Mem.read, h, h2, h3]
      · rename_i h1
        by_cases h : a' = a
        · subst h
          simp [Mem.read, h1, ih]
        · simp [Mem.read, ih, h]

@[simp] theorem Mem.read_write_self (m : Mem) (a : Nat) (b : Byte) : (Mem.write m a b).read a = some b := by
  simp [Mem.read_write]

theorem Mem.read_write_ne {a a' : Nat} (m : Mem) (b : Byte) (h : a' ≠ a) :
    (Mem.write m a b).read a' = m.read a' := by
  simp [Mem.read_write, h]

/-- The canonical form, cell by cell. -/
theorem Mem.wf_cons (c : Host.Cell) (m : Mem) :
    Mem.wf (c :: m) = true ↔ (∀ d ∈ m, c.1 < d.1) ∧ Mem.wf m = true := by
  simp [Mem.wf]

theorem Mem.mem_write {m : Mem} {a : Nat} {b : Byte} {d : Host.Cell} (h : d ∈ Mem.write m a b) :
    d = (a, b) ∨ d ∈ m := by
  induction m with
  | nil => exact .inl (by simpa [Mem.write] using h)
  | cons c m ih =>
    unfold Mem.write at h
    split at h
    · rcases List.mem_cons.1 h with h | h
      · exact .inl h
      · exact .inr h
    · split at h
      · rcases List.mem_cons.1 h with h | h
        · exact .inl h
        · exact .inr (List.mem_cons_of_mem _ h)
      · rcases List.mem_cons.1 h with h | h
        · exact .inr (h ▸ List.mem_cons_self)
        · exact (ih h).imp id (List.mem_cons_of_mem _)

/-- A write keeps the canonical form. -/
theorem Mem.wf_write {m : Mem} (a : Nat) (b : Byte) (h : Mem.wf m = true) : Mem.wf (Mem.write m a b) = true := by
  induction m with
  | nil => rfl
  | cons c m ih =>
    obtain ⟨h1, h2⟩ := (Mem.wf_cons c m).1 h
    unfold Mem.write
    split
    · rename_i hlt
      refine (Mem.wf_cons _ _).2 ⟨fun d hd => ?_, h⟩
      rcases List.mem_cons.1 hd with rfl | hd
      · exact hlt
      · exact Nat.lt_trans hlt (h1 d hd)
    · split
      · rename_i heq
        exact (Mem.wf_cons _ _).2 ⟨fun d hd => heq ▸ h1 d hd, h2⟩
      · rename_i hge hne
        refine (Mem.wf_cons _ _).2 ⟨fun d hd => ?_, ih h2⟩
        rcases Mem.mem_write hd with rfl | hd
        · show c.1 < a
          omega
        · exact h1 d hd

/-- The cells of a LOAD: where they are all below `n` they are written in order. -/
theorem loadCells_ok {n : Nat} {cells : List Host.Cell} (h : ∀ c ∈ cells, c.1 < n) (m : Mem) :
    loadCells n cells m = .ok (cells.foldl (fun m c => m.write c.1 c.2) m) := by
  induction cells generalizing m with
  | nil => rfl
  | cons c cells ih =>
    have hc : c.1 < n := h c List.mem_cons_self
    simp [loadCells, hc, ih (fun d hd => h d (List.mem_cons_of_mem _ hd))]

/-- A LOAD answers only when every cell is below `n`. -/
theorem loadCells_inv {n : Nat} {cells : List Host.Cell} {m m' : Mem} (h : loadCells n cells m = .ok m') :
    (∀ c ∈ cells, c.1 < n) ∧ m' = cells.foldl (fun m c => m.write c.1 c.2) m := by
  induction cells generalizing m with
  | nil => exact ⟨by simp, by simpa [loadCells] using h.symm⟩
  | cons c cells ih =>
    unfold loadCells at h
    split at h
    · rename_i hc
      obtain ⟨h1, h2⟩ := ih h
      exact ⟨fun d hd => (List.mem_cons.1 hd).elim (· ▸ hc) (h1 d), h2⟩
    · cases h

/-- A LOAD that names a cell at or above `n` stops at the first one it names. -/
theorem loadCells_error {n : Nat} {cells : List Host.Cell} {c : Host.Cell}
    (h : cells.find? (fun d => decide (n ≤ d.1)) = some c) (m : Mem) : loadCells n cells m = .error (.noSuchCell c.1) := by
  induction cells generalizing m with
  | nil => cases h
  | cons d cells ih =>
    rw [List.find?_cons] at h
    split at h
    · rename_i hd
      cases h
      have : ¬ c.1 < n := by simpa using hd
      simp [loadCells, this]
    · rename_i hd
      have : d.1 < n := by simpa using hd
      simp [loadCells, this, ih h]

/-- Writing cells in order keeps the canonical form. -/
theorem Mem.wf_writeAll (cells : List Host.Cell) {m : Mem} (h : Mem.wf m = true) :
    Mem.wf (cells.foldl (fun m c => m.write c.1 c.2) m) = true := by
  induction cells generalizing m with
  | nil => exact h
  | cons c cells ih => exact ih (Mem.wf_write c.1 c.2 h)

/-- A cell that a LOAD does not name reads as before. -/
theorem Mem.read_writeAll_of_not_mem {cells : List Host.Cell} {a : Nat} (h : ∀ c ∈ cells, c.1 ≠ a) (m : Mem) :
    (cells.foldl (fun m c => m.write c.1 c.2) m).read a = m.read a := by
  induction cells generalizing m with
  | nil => rfl
  | cons c cells ih =>
    rw [List.foldl_cons, ih (fun d hd => h d (List.mem_cons_of_mem _ hd))]
    exact Mem.read_write_ne m c.2 (fun e => h c List.mem_cons_self e.symm)

/-- Writing never takes a value away. -/
theorem Mem.isSome_read_write {m : Mem} {a' : Nat} (a : Nat) (b : Byte) (h : (m.read a').isSome = true) :
    ((Mem.write m a b).read a').isSome = true := by
  rw [Mem.read_write]
  split
  · rfl
  · exact h

end Sys2Proof.Machine
end

