-- ==== Sys2Proof/Laws/Ops.lean ====
section
/-! SUPPORT. What each shared operation can do, said once. -/

namespace Sys2Proof.Machine

/-! ## Reads of `CW` -/

/-- A read of `CW` answers exactly for a cell below `n` that holds the value. -/
theorem readCw_ok {i : Nat} {s : State} {b : Byte} : readCw i s = .ok b ↔ i < s.n ∧ s.cw.read i = some b := by
  unfold readCw
  split
  · rename_i h
    split
    · rename_i b' hb
      simp [h, hb]
    · rename_i hb
      simp [hb]
  · rename_i h
    simp [h]

/-- A run of reads answers exactly the values the cells hold. -/
theorem readRun_ok {i len : Nat} {s : State} {ws : List Byte} :
    readRun i len s = .ok ws ↔ ws.length = len ∧ (0 < len → i + len ≤ s.n) ∧ Holds s i ws := by
  induction len generalizing i ws with
  | zero =>
    cases ws with
    | nil => simp [readRun, Holds]
    | cons w ws => simp [readRun]
  | succ k ih =>
    unfold readRun
    cases ws with
    | nil =>
      split
      · simp
      · split <;> simp
    | cons w ws =>
      have key : readRun i (k + 1) s = .ok (w :: ws) ↔ readCw i s = .ok w ∧ readRun (i + 1) k s = .ok ws := by
        rw [readRun]
        constructor
        · intro h
          split at h
          · cases h
          · rename_i b hb
            split at h
            · cases h
            · rename_i bs hbs
              cases h
              exact ⟨hb, hbs⟩
        · rintro ⟨h1, h2⟩
          rw [h1]
          simp only [h2]
      have unfolded := key
      rw [readRun] at unfolded
      rw [unfolded, readCw_ok, ih]
      constructor
      · rintro ⟨⟨hlt, hb⟩, hlen, hle, hh⟩
        refine ⟨by simp [hlen], fun _ => by omega, fun j hj => ?_⟩
        cases j with
        | zero => simpa using hb
        | succ j =>
          have := hh j (by simpa using hj)
          simpa [Nat.add_assoc, Nat.add_comm 1 j] using this
      · rintro ⟨hlen, hle, hh⟩
        have hlen' : ws.length = k := by simpa using hlen
        refine ⟨⟨by have := hle (by omega); omega, by simpa using hh 0 (by simp)⟩, hlen',
          fun _ => by have := hle (by omega); omega, fun j hj => ?_⟩
        have := hh (j + 1) (by simpa using hj)
        simpa [Nat.add_assoc, Nat.add_comm 1 j] using this

/-- What a complete load is. -/
theorem State.loaded_iff (s : State) :
    s.loaded = true ↔ s.dwLoaded = true ∧ s.ewLoaded = true ∧ ∀ i, i < s.n → (s.cw.read i).isSome = true := by
  simp [State.loaded, and_assoc]

/-- With a complete load, a read below `n` answers. -/
theorem readCw_of_loaded {i : Nat} {s : State} (h : s.loaded = true) (hi : i < s.n) : ∃ b, readCw i s = .ok b := by
  obtain ⟨b, hb⟩ := Option.isSome_iff_exists.1 ((s.loaded_iff.1 h).2.2 i hi)
  exact ⟨b, readCw_ok.2 ⟨hi, hb⟩⟩

/-- With a complete load, a run of reads below `n` answers. -/
theorem readRun_of_loaded {i len : Nat} {s : State} (h : s.loaded = true) (hi : i + len ≤ s.n) :
    ∃ ws, readRun i len s = .ok ws := by
  induction len generalizing i with
  | zero => exact ⟨[], rfl⟩
  | succ k ih =>
    obtain ⟨b, hb⟩ := readCw_of_loaded h (i := i) (by omega)
    obtain ⟨bs, hbs⟩ := ih (i := i + 1) (by omega)
    exact ⟨b :: bs, by simp [readRun, hb, hbs]⟩

/-! ## Emitting -/

/-- `emit` appends one byte. -/
theorem emit_appends (b : Byte) (s : State) : Appends s (emit b s) [b] := by
  refine ⟨rfl, fun k hk => ?_, fun a ha => ?_⟩
  · have : k = 0 := by simpa using hk
    subst this
    simp
  · have : a ≠ s.olen := by
      rcases ha with ha | ha
      · omega
      · simp at ha; omega
    simp [Mem.read_write_ne _ _ this]

/-- What is appended twice is appended together. -/
theorem Appends.append {s t u : State} {bs cs : List Byte} (h1 : Appends s t bs) (h2 : Appends t u cs) :
    Appends s u (bs ++ cs) := by
  obtain ⟨l1, r1, o1⟩ := h1
  obtain ⟨l2, r2, o2⟩ := h2
  refine ⟨by simp [l2, l1]; omega, fun k hk => ?_, fun a ha => ?_⟩
  · by_cases hk1 : k < bs.length
    · rw [o2 _ (.inl (by omega)), r1 k hk1, List.getElem?_append_left hk1]
    · have hk2 : k - bs.length < cs.length := by simp at hk; omega
      have := r2 (k - bs.length) hk2
      rw [l1, show s.olen + bs.length + (k - bs.length) = s.olen + k by omega] at this
      rw [this, List.getElem?_append_right (by omega)]
  · simp only [List.length_append] at ha
    rw [o2 a (by omega), o1 a (by omega)]

/-- Nothing is appended by an update that leaves `OUT` and `OLEN`. -/
theorem Appends.of_eq {s t : State} (h1 : t.out = s.out) (h2 : t.olen = s.olen) : Appends s t [] := by
  refine ⟨by simpa using h2, by simp, fun a _ => by rw [h1]⟩

/-- Only `OUT` and `OLEN` matter to what is appended. -/
theorem Appends.congr_right {s t u : State} {bs : List Byte} (h : Appends s t bs) (h1 : u.out = t.out)
    (h2 : u.olen = t.olen) : Appends s u bs := by
  obtain ⟨l, r, o⟩ := h
  exact ⟨by rw [h2, l], fun k hk => by rw [h1]; exact r k hk, fun a ha => by rw [h1]; exact o a ha⟩

/-- `emitAll` appends its bytes. -/
theorem emitAll_appends (bs : List Byte) (s : State) : Appends s (emitAll bs s) bs := by
  induction bs generalizing s with
  | nil => exact Appends.of_eq rfl rfl
  | cons b bs ih => exact (emit_appends b s).append (ih (emit b s))

/-- `emit_us` appends the shifted byte. -/
theorem emitUs_appends (b : Nat) (s : State) : Appends s (emitUs b s) [usByte s b] :=
  (emit_appends (usByte s b) s).congr_right (by simp) (by simp)

/-- `emitAll` changes `OUT` and `OLEN` only. -/
theorem emitAll_frame (bs : List Byte) (s : State) :
    emitAll bs s = { s with out := (emitAll bs s).out, olen := (emitAll bs s).olen } := by
  induction bs generalizing s with
  | nil => rfl
  | cons b bs ih => exact ih (emit b s)

/-- `emit_us` changes `OUT`, `OLEN` and `USH` only, and leaves `USH` 0. -/
theorem emitUs_frame (b : Nat) (s : State) :
    emitUs b s = { s with out := (emitUs b s).out, olen := (emitUs b s).olen, ush := false } := by
  unfold emitUs
  cases h : s.ush <;> simp [emit, h]

/-- `emit` keeps the canonical form of `OUT`. -/
theorem emit_keeps_wf {b : Byte} {s : State} (h : s.out.wf = true) : (emit b s).out.wf = true :=
  Mem.wf_write _ _ h

theorem emitAll_keeps_wf {bs : List Byte} {s : State} (h : s.out.wf = true) : (emitAll bs s).out.wf = true := by
  induction bs generalizing s with
  | nil => exact h
  | cons b bs ih => exact ih (emit_keeps_wf h)

/-- A correction keeps the canonical form of `CW`. -/
theorem writeCw_keeps_wf {i : Nat} {b : Byte} {s : State} (h : s.cw.wf = true) : (writeCw i b s).cw.wf = true :=
  Mem.wf_write _ _ h

/-! ## Groups -/

/-- The two ways the values of a group end. -/
theorem runValues_cons (value : Nat → State → Eff) (v : Nat) (vs : List Nat) (s : State) :
    runValues value (v :: vs) s =
      match value v s with
      | .done s' => runValues value vs s'
      | .raised c s' => .raised c s' := rfl

/-- What a pair can do: its values are done and `IDX` moves on by two, or a value raises INVALID_PAYLOAD. -/
theorem triple_cases (value : Nat → State → Eff) (a b c : Nat) (s : State) :
    (∃ s', runValues value [a, b, c] s = .done s' ∧ triple value a b c s = .next (endGroup (advance 2 s'))) ∨
    (∃ cause s', runValues value [a, b, c] s = .raised cause s' ∧
      triple value a b c s = .next (raiseInvalidPayload cause s')) := by
  unfold triple
  cases h : runValues value [a, b, c] s with
  | done s' => exact .inl ⟨s', rfl, rfl⟩
  | raised cause s' => exact .inr ⟨cause, s', rfl, rfl⟩

/-- What a Base256 field can do. -/
theorem base256Field_cases (start len : Nat) (s : State) :
    (s.dw < start + len ∧ base256Field start len s = .next (raiseInvalidPayload .b256Overrun s)) ∨
    (start + len ≤ s.dw ∧ ∃ ws, readRun start len s = .ok ws ∧ base256Field start len s =
      .next (endGroup (endRun { emitAll (unrandAll start ws) s with idx := start + len }))) ∨
    (start + len ≤ s.dw ∧ ∃ f, readRun start len s = .error f ∧ base256Field start len s = .fault f) := by
  unfold base256Field
  by_cases h : s.dw < start + len
  · exact .inl ⟨h, by simp [h]⟩
  · cases hr : readRun start len s with
    | ok ws => exact .inr (.inl ⟨by omega, ws, rfl, by simp [h]⟩)
    | error f => exact .inr (.inr ⟨by omega, f, rfl, by simp [h]⟩)

/-- The plain bytes of a field are as many as its codewords. -/
@[simp] theorem unrandAll_length (i : Nat) (ws : List Byte) : (unrandAll i ws).length = ws.length := by
  induction ws generalizing i with
  | nil => rfl
  | cons w ws ih => simp [unrandAll, ih]

/-- Byte `k` of a field is its codeword, unrandomised at its own index (R205). -/
theorem unrandAll_getElem? (i : Nat) (ws : List Byte) (k : Nat) :
    (unrandAll i ws)[k]? = (ws[k]?).map fun w => unrand w (i + k) := by
  induction ws generalizing i k with
  | nil => simp [unrandAll]
  | cons w ws ih =>
    cases k with
    | zero => simp [unrandAll]
    | succ k => simp [unrandAll, ih, Nat.add_assoc, Nat.add_comm 1 k]

/-! ## The correction loop -/

/-- One turn of the correction loop. -/
theorem correctAll_cons {k : Nat} {ks : List Nat} {s t : State} (h : correctAll (k :: ks) s = .ok t) :
    locAt s k < s.n ∧ ∃ b, s.cw.read (s.n - 1 - locAt s k) = some b ∧
      correctAll ks (writeCw (s.n - 1 - locAt s k) (gadd b (yAt s k)) s) = .ok t := by
  rw [correctAll] at h
  split at h
  · rename_i hlt
    split at h
    · cases h
    · rename_i b hb
      exact ⟨hlt, b, (readCw_ok.1 hb).2, h⟩
  · cases h

/-- The correction loop changes nothing but `CW`. -/
theorem correctAll_frame {ks : List Nat} {s t : State} (h : correctAll ks s = .ok t) : t = { s with cw := t.cw } := by
  induction ks generalizing s with
  | nil => cases h; rfl
  | cons k ks ih =>
    obtain ⟨_, b, _, h⟩ := correctAll_cons h
    have := ih h
    exact this

/-- The correction loop keeps the canonical form of `CW`. -/
theorem correctAll_keeps_wf {ks : List Nat} {s t : State} (h : correctAll ks s = .ok t) (hw : s.cw.wf = true) :
    t.cw.wf = true := by
  induction ks generalizing s with
  | nil => cases h; exact hw
  | cons k ks ih =>
    obtain ⟨_, b, _, h⟩ := correctAll_cons h
    exact ih h (writeCw_keeps_wf hw)

/-! ## The host's operations -/

/-- What LOAD can do (R80, R239): outside the protocol it is refused; a cell that does not exist stops it; otherwise it
writes what the host names and records it. -/
theorem execLoad_cases (dw ew : Option Nat) (cells : List Host.Cell) (s : State) :
    (s.busy = true ∧ execLoad dw ew cells s = .refused .hostBusy) ∨
    (s.busy = false ∧ ∃ f, loadCells (dw.getD s.dw + ew.getD s.ew) cells s.cw = .error f ∧
      execLoad dw ew cells s = .fault f) ∨
    (s.busy = false ∧ ∃ m, loadCells (dw.getD s.dw + ew.getD s.ew) cells s.cw = .ok m ∧
      execLoad dw ew cells s = .next { s with
        dw := dw.getD s.dw, ew := ew.getD s.ew, dwLoaded := s.dwLoaded || dw.isSome,
        ewLoaded := s.ewLoaded || ew.isSome, cw := m }) := by
  unfold execLoad
  cases hb : s.busy with
  | true => simp
  | false =>
    cases hl : loadCells (dw.getD s.dw + ew.getD s.ew) cells s.cw with
    | error f => simp
    | ok m => simp

/-- What START can do (R81): it begins a transaction where none runs and the load is complete, and is refused
otherwise. -/
theorem execStart_cases (s : State) :
    (s.busy = true ∧ execStart s = .refused .hostBusy) ∨
    (s.busy = false ∧ s.loaded = false ∧ execStart s = .refused .unloadedStart) ∨
    (s.busy = false ∧ s.loaded = true ∧
      execStart s = .next { s with olen := 0, cause := .none, fidx := 0, phase := .rs, upc := .rsSynd }) := by
  unfold execStart
  cases hb : s.busy <;> cases hl : s.loaded <;> simp

/-! ## What a step can be -/

/-- What the next step is, by the host's list. -/
theorem nextTurn_cases (s : State) :
    (∃ q, s.host = .reset :: q ∧ nextTurn s = .settled (withHost q State.reset)) ∨
    (∃ q, s.host = .wait :: q ∧ nextTurn s = blockTurn (withHost q s)) ∨
    (∃ dw ew cells q, s.host = .load dw ew cells :: q ∧ s.busy = false ∧
      nextTurn s = .run (.load dw ew cells) (withHost q s)) ∨
    (∃ q, s.host = .start :: q ∧ s.busy = false ∧ nextTurn s = .run .start (withHost q s)) ∨
    nextTurn s = blockTurn s := by
  unfold nextTurn
  rcases hh : s.host with _ | ⟨e, q⟩
  · simp
  · cases e <;> cases hb : s.busy <;> simp

/-- What the block's own turn is. -/
theorem blockTurn_cases (s : State) :
    (s.busy = false ∧ blockTurn s = .settled s) ∨
    (s.busy = true ∧ ∃ i, fetch s = .ok i ∧ blockTurn s = .run i s) ∨
    (s.busy = true ∧ ∃ f, fetch s = .error f ∧ blockTurn s = .stop f) := by
  unfold blockTurn
  cases hb : s.busy with
  | false => simp
  | true =>
    cases hf : fetch s with
    | ok i => simp
    | error f => simp

end Sys2Proof.Machine
end

