-- ==== Sys2Proof/Laws/PerInstr.lean ====
section
/-! SUPPORT. The lemmas for each instruction: how many codewords the encoder gives it. -/

namespace Sys2Proof.Laws.EncodedLength

open Sys2Proof

/-- The encoder gives at most three codewords (R60; the data of a Base256 field are not part of its instruction), and
none to a row that is a value of a pair or triple (R74). -/
def Statement (i : Instr) : Prop :=
  ∀ idx, (encode idx i).length ≤ 3 ∧ ((encodeValue i).isSome = true → encode idx i = [])

theorem load (dw ew : Option Nat) (cells : List (Nat × Byte)) : Statement (.load dw ew cells) :=
  fun _ => ⟨Nat.le_of_ble_eq_true rfl, fun h => Bool.noConfusion h⟩
theorem start : Statement (.start) :=
  fun _ => ⟨Nat.le_of_ble_eq_true rfl, fun h => Bool.noConfusion h⟩
theorem rsSynd : Statement (.rsSynd) :=
  fun _ => ⟨Nat.le_of_ble_eq_true rfl, fun h => Bool.noConfusion h⟩
theorem rsZero : Statement (.rsZero) :=
  fun _ => ⟨Nat.le_of_ble_eq_true rfl, fun h => Bool.noConfusion h⟩
theorem rsLoc : Statement (.rsLoc) :=
  fun _ => ⟨Nat.le_of_ble_eq_true rfl, fun h => Bool.noConfusion h⟩
theorem rsChien : Statement (.rsChien) :=
  fun _ => ⟨Nat.le_of_ble_eq_true rfl, fun h => Bool.noConfusion h⟩
theorem rsCount : Statement (.rsCount) :=
  fun _ => ⟨Nat.le_of_ble_eq_true rfl, fun h => Bool.noConfusion h⟩
theorem rsMag : Statement (.rsMag) :=
  fun _ => ⟨Nat.le_of_ble_eq_true rfl, fun h => Bool.noConfusion h⟩
theorem rsCorr : Statement (.rsCorr) :=
  fun _ => ⟨Nat.le_of_ble_eq_true rfl, fun h => Bool.noConfusion h⟩
theorem rsEnd : Statement (.rsEnd) :=
  fun _ => ⟨Nat.le_of_ble_eq_true rfl, fun h => Bool.noConfusion h⟩
theorem seqBranch : Statement (.seqBranch) :=
  fun _ => ⟨Nat.le_of_ble_eq_true rfl, fun h => Bool.noConfusion h⟩
theorem plInit : Statement (.plInit) :=
  fun _ => ⟨Nat.le_of_ble_eq_true rfl, fun h => Bool.noConfusion h⟩
theorem plLoop : Statement (.plLoop) :=
  fun _ => ⟨Nat.le_of_ble_eq_true rfl, fun h => Bool.noConfusion h⟩
theorem plDispatch : Statement (.plDispatch) :=
  fun _ => ⟨Nat.le_of_ble_eq_true rfl, fun h => Bool.noConfusion h⟩
theorem plEnd : Statement (.plEnd) :=
  fun _ => ⟨Nat.le_of_ble_eq_true rfl, fun h => Bool.noConfusion h⟩
theorem seqDone : Statement (.seqDone) :=
  fun _ => ⟨Nat.le_of_ble_eq_true rfl, fun h => Bool.noConfusion h⟩
theorem rsv0 : Statement (.rsv0) :=
  fun _ => ⟨Nat.le_of_ble_eq_true rfl, fun h => Bool.noConfusion h⟩
theorem asc (b : Nat) : Statement (.asc b) :=
  fun _ => ⟨Nat.le_of_ble_eq_true rfl, fun h => Bool.noConfusion h⟩
theorem pad : Statement (.pad) :=
  fun _ => ⟨Nat.le_of_ble_eq_true rfl, fun h => Bool.noConfusion h⟩
theorem dig (dd : Nat) : Statement (.dig dd) :=
  fun _ => ⟨Nat.le_of_ble_eq_true rfl, fun h => Bool.noConfusion h⟩
theorem lc40 : Statement (.lc40) :=
  fun _ => ⟨Nat.le_of_ble_eq_true rfl, fun h => Bool.noConfusion h⟩
theorem lb256 : Statement (.lb256) :=
  fun _ => ⟨Nat.le_of_ble_eq_true rfl, fun h => Bool.noConfusion h⟩
theorem fnc1 : Statement (.fnc1) :=
  fun _ => ⟨Nat.le_of_ble_eq_true rfl, fun h => Bool.noConfusion h⟩
theorem rsv233 (w : Byte) : Statement (.rsv233 w) :=
  fun _ => ⟨Nat.le_of_ble_eq_true rfl, fun h => Bool.noConfusion h⟩
theorem ush : Statement (.ush) :=
  fun _ => ⟨Nat.le_of_ble_eq_true rfl, fun h => Bool.noConfusion h⟩
theorem mac05 : Statement (.mac05) :=
  fun _ => ⟨Nat.le_of_ble_eq_true rfl, fun h => Bool.noConfusion h⟩
theorem mac06 : Statement (.mac06) :=
  fun _ => ⟨Nat.le_of_ble_eq_true rfl, fun h => Bool.noConfusion h⟩
theorem rsv236 (w : Byte) : Statement (.rsv236 w) :=
  fun _ => ⟨Nat.le_of_ble_eq_true rfl, fun h => Bool.noConfusion h⟩
theorem lx12 : Statement (.lx12) :=
  fun _ => ⟨Nat.le_of_ble_eq_true rfl, fun h => Bool.noConfusion h⟩
theorem ltxt : Statement (.ltxt) :=
  fun _ => ⟨Nat.le_of_ble_eq_true rfl, fun h => Bool.noConfusion h⟩
theorem ledf : Statement (.ledf) :=
  fun _ => ⟨Nat.le_of_ble_eq_true rfl, fun h => Bool.noConfusion h⟩
theorem eci (v : Option Byte) : Statement (.eci v) :=
  match v with
  | none => fun _ => ⟨Nat.le_of_ble_eq_true rfl, fun h => Bool.noConfusion h⟩
  | some _ => fun _ => ⟨Nat.le_of_ble_eq_true rfl, fun h => Bool.noConfusion h⟩
theorem rsv242 (w : Byte) : Statement (.rsv242 w) :=
  fun _ => ⟨Nat.le_of_ble_eq_true rfl, fun h => Bool.noConfusion h⟩
theorem pairShortC40 : Statement (.pairShortC40) :=
  fun _ => ⟨Nat.le_of_ble_eq_true rfl, fun h => Bool.noConfusion h⟩
theorem unlC40 : Statement (.unlC40) :=
  fun _ => ⟨Nat.le_of_ble_eq_true rfl, fun h => Bool.noConfusion h⟩
theorem rsvPair0C40 : Statement (.rsvPair0C40) :=
  fun _ => ⟨Nat.le_of_ble_eq_true rfl, fun h => Bool.noConfusion h⟩
theorem triC40 (a b c : Nat) : Statement (.triC40 a b c) :=
  fun _ => ⟨Nat.le_of_ble_eq_true rfl, fun h => Bool.noConfusion h⟩
theorem rsvPairHiC40 (num : Nat) : Statement (.rsvPairHiC40 num) :=
  fun _ => ⟨Nat.le_of_ble_eq_true rfl, fun h => Bool.noConfusion h⟩
theorem pairShortText : Statement (.pairShortText) :=
  fun _ => ⟨Nat.le_of_ble_eq_true rfl, fun h => Bool.noConfusion h⟩
theorem unlText : Statement (.unlText) :=
  fun _ => ⟨Nat.le_of_ble_eq_true rfl, fun h => Bool.noConfusion h⟩
theorem rsvPair0Text : Statement (.rsvPair0Text) :=
  fun _ => ⟨Nat.le_of_ble_eq_true rfl, fun h => Bool.noConfusion h⟩
theorem triText (a b c : Nat) : Statement (.triText a b c) :=
  fun _ => ⟨Nat.le_of_ble_eq_true rfl, fun h => Bool.noConfusion h⟩
theorem rsvPairHiText (num : Nat) : Statement (.rsvPairHiText num) :=
  fun _ => ⟨Nat.le_of_ble_eq_true rfl, fun h => Bool.noConfusion h⟩
theorem pairShortX12 : Statement (.pairShortX12) :=
  fun _ => ⟨Nat.le_of_ble_eq_true rfl, fun h => Bool.noConfusion h⟩
theorem unlX12 : Statement (.unlX12) :=
  fun _ => ⟨Nat.le_of_ble_eq_true rfl, fun h => Bool.noConfusion h⟩
theorem rsvPair0X12 : Statement (.rsvPair0X12) :=
  fun _ => ⟨Nat.le_of_ble_eq_true rfl, fun h => Bool.noConfusion h⟩
theorem triX12 (a b c : Nat) : Statement (.triX12 a b c) :=
  fun _ => ⟨Nat.le_of_ble_eq_true rfl, fun h => Bool.noConfusion h⟩
theorem rsvPairHiX12 (num : Nat) : Statement (.rsvPairHiX12 num) :=
  fun _ => ⟨Nat.le_of_ble_eq_true rfl, fun h => Bool.noConfusion h⟩
theorem sh1C40 : Statement (.sh1C40) :=
  fun _ => ⟨Nat.le_of_ble_eq_true rfl, fun _ => rfl⟩
theorem sh2C40 : Statement (.sh2C40) :=
  fun _ => ⟨Nat.le_of_ble_eq_true rfl, fun _ => rfl⟩
theorem sh3C40 : Statement (.sh3C40) :=
  fun _ => ⟨Nat.le_of_ble_eq_true rfl, fun _ => rfl⟩
theorem vSpC40 : Statement (.vSpC40) :=
  fun _ => ⟨Nat.le_of_ble_eq_true rfl, fun _ => rfl⟩
theorem vDigitC40 (v : Nat) : Statement (.vDigitC40 v) :=
  fun _ => ⟨Nat.le_of_ble_eq_true rfl, fun _ => rfl⟩
theorem vUpperC40 (v : Nat) : Statement (.vUpperC40 v) :=
  fun _ => ⟨Nat.le_of_ble_eq_true rfl, fun _ => rfl⟩
theorem vS1C40 (v : Nat) : Statement (.vS1C40 v) :=
  fun _ => ⟨Nat.le_of_ble_eq_true rfl, fun _ => rfl⟩
theorem rsvS1C40 (v : Nat) : Statement (.rsvS1C40 v) :=
  fun _ => ⟨Nat.le_of_ble_eq_true rfl, fun _ => rfl⟩
theorem vS2aC40 (v : Nat) : Statement (.vS2aC40 v) :=
  fun _ => ⟨Nat.le_of_ble_eq_true rfl, fun _ => rfl⟩
theorem vS2bC40 (v : Nat) : Statement (.vS2bC40 v) :=
  fun _ => ⟨Nat.le_of_ble_eq_true rfl, fun _ => rfl⟩
theorem vS2cC40 (v : Nat) : Statement (.vS2cC40 v) :=
  fun _ => ⟨Nat.le_of_ble_eq_true rfl, fun _ => rfl⟩
theorem vS2fnc1C40 : Statement (.vS2fnc1C40) :=
  fun _ => ⟨Nat.le_of_ble_eq_true rfl, fun _ => rfl⟩
theorem rsvS2aC40 (v : Nat) : Statement (.rsvS2aC40 v) :=
  fun _ => ⟨Nat.le_of_ble_eq_true rfl, fun _ => rfl⟩
theorem vS2ushC40 : Statement (.vS2ushC40) :=
  fun _ => ⟨Nat.le_of_ble_eq_true rfl, fun _ => rfl⟩
theorem rsvS2bC40 (v : Nat) : Statement (.rsvS2bC40 v) :=
  fun _ => ⟨Nat.le_of_ble_eq_true rfl, fun _ => rfl⟩
theorem vS3C40 (v : Nat) : Statement (.vS3C40 v) :=
  fun _ => ⟨Nat.le_of_ble_eq_true rfl, fun _ => rfl⟩
theorem rsvS3C40 (v : Nat) : Statement (.rsvS3C40 v) :=
  fun _ => ⟨Nat.le_of_ble_eq_true rfl, fun _ => rfl⟩
theorem sh1Text : Statement (.sh1Text) :=
  fun _ => ⟨Nat.le_of_ble_eq_true rfl, fun _ => rfl⟩
theorem sh2Text : Statement (.sh2Text) :=
  fun _ => ⟨Nat.le_of_ble_eq_true rfl, fun _ => rfl⟩
theorem sh3Text : Statement (.sh3Text) :=
  fun _ => ⟨Nat.le_of_ble_eq_true rfl, fun _ => rfl⟩
theorem vSpText : Statement (.vSpText) :=
  fun _ => ⟨Nat.le_of_ble_eq_true rfl, fun _ => rfl⟩
theorem vDigitText (v : Nat) : Statement (.vDigitText v) :=
  fun _ => ⟨Nat.le_of_ble_eq_true rfl, fun _ => rfl⟩
theorem vLowerText (v : Nat) : Statement (.vLowerText v) :=
  fun _ => ⟨Nat.le_of_ble_eq_true rfl, fun _ => rfl⟩
theorem vS1Text (v : Nat) : Statement (.vS1Text v) :=
  fun _ => ⟨Nat.le_of_ble_eq_true rfl, fun _ => rfl⟩
theorem rsvS1Text (v : Nat) : Statement (.rsvS1Text v) :=
  fun _ => ⟨Nat.le_of_ble_eq_true rfl, fun _ => rfl⟩
theorem vS2aText (v : Nat) : Statement (.vS2aText v) :=
  fun _ => ⟨Nat.le_of_ble_eq_true rfl, fun _ => rfl⟩
theorem vS2bText (v : Nat) : Statement (.vS2bText v) :=
  fun _ => ⟨Nat.le_of_ble_eq_true rfl, fun _ => rfl⟩
theorem vS2cText (v : Nat) : Statement (.vS2cText v) :=
  fun _ => ⟨Nat.le_of_ble_eq_true rfl, fun _ => rfl⟩
theorem vS2fnc1Text : Statement (.vS2fnc1Text) :=
  fun _ => ⟨Nat.le_of_ble_eq_true rfl, fun _ => rfl⟩
theorem rsvS2aText (v : Nat) : Statement (.rsvS2aText v) :=
  fun _ => ⟨Nat.le_of_ble_eq_true rfl, fun _ => rfl⟩
theorem vS2ushText : Statement (.vS2ushText) :=
  fun _ => ⟨Nat.le_of_ble_eq_true rfl, fun _ => rfl⟩
theorem rsvS2bText (v : Nat) : Statement (.rsvS2bText v) :=
  fun _ => ⟨Nat.le_of_ble_eq_true rfl, fun _ => rfl⟩
theorem vS3graveText : Statement (.vS3graveText) :=
  fun _ => ⟨Nat.le_of_ble_eq_true rfl, fun _ => rfl⟩
theorem vS3upperText (v : Nat) : Statement (.vS3upperText v) :=
  fun _ => ⟨Nat.le_of_ble_eq_true rfl, fun _ => rfl⟩
theorem vS3highText (v : Nat) : Statement (.vS3highText v) :=
  fun _ => ⟨Nat.le_of_ble_eq_true rfl, fun _ => rfl⟩
theorem rsvS3Text (v : Nat) : Statement (.rsvS3Text v) :=
  fun _ => ⟨Nat.le_of_ble_eq_true rfl, fun _ => rfl⟩
theorem xCr : Statement (.xCr) :=
  fun _ => ⟨Nat.le_of_ble_eq_true rfl, fun _ => rfl⟩
theorem xStar : Statement (.xStar) :=
  fun _ => ⟨Nat.le_of_ble_eq_true rfl, fun _ => rfl⟩
theorem xGt : Statement (.xGt) :=
  fun _ => ⟨Nat.le_of_ble_eq_true rfl, fun _ => rfl⟩
theorem xSp : Statement (.xSp) :=
  fun _ => ⟨Nat.le_of_ble_eq_true rfl, fun _ => rfl⟩
theorem xDigit (v : Nat) : Statement (.xDigit v) :=
  fun _ => ⟨Nat.le_of_ble_eq_true rfl, fun _ => rfl⟩
theorem xUpper (v : Nat) : Statement (.xUpper v) :=
  fun _ => ⟨Nat.le_of_ble_eq_true rfl, fun _ => rfl⟩
theorem edfShort : Statement (.edfShort) :=
  fun _ => ⟨Nat.le_of_ble_eq_true rfl, fun h => Bool.noConfusion h⟩
theorem edf (v0 v1 v2 v3 : Nat) : Statement (.edf v0 v1 v2 v3) :=
  fun _ => ⟨Nat.le_of_ble_eq_true rfl, fun h => Bool.noConfusion h⟩
theorem eLow (v : Nat) : Statement (.eLow v) :=
  fun _ => ⟨Nat.le_of_ble_eq_true rfl, fun _ => rfl⟩
theorem eUnl (j : Nat) : Statement (.eUnl j) :=
  fun _ => ⟨Nat.le_of_ble_eq_true rfl, fun _ => rfl⟩
theorem eHigh (v : Nat) : Statement (.eHigh v) :=
  fun _ => ⟨Nat.le_of_ble_eq_true rfl, fun _ => rfl⟩
theorem b256L0 : Statement (.b256L0) :=
  fun _ => ⟨Nat.le_of_ble_eq_true rfl, fun h => Bool.noConfusion h⟩
theorem b256L1 (d0 : Byte) : Statement (.b256L1 d0) :=
  fun _ => ⟨Nat.le_of_ble_eq_true rfl, fun h => Bool.noConfusion h⟩
theorem b256L2 (d0 : Byte) (d1 : Option Byte) : Statement (.b256L2 d0 d1) :=
  match d1 with
  | none => fun _ => ⟨Nat.le_of_ble_eq_true rfl, fun h => Bool.noConfusion h⟩
  | some _ => fun _ => ⟨Nat.le_of_ble_eq_true rfl, fun h => Bool.noConfusion h⟩

end Sys2Proof.Laws.EncodedLength
end

