-- ==== Sys2Proof/Tests/Slice0.lean ====
section
/-! SUPPORT. The author's tests: the operand checks, the decoder on written-out codewords, single steps against the
vectors of 95_test_vectors.md and the examples of the rules, and for each statement with hypotheses a witness that
meets them. Expected values are the spec's, or worked out by hand from the rule a test names. -/

namespace Sys2Proof.Tests

open Sys2Proof Sys2Proof.Machine

/-! ## Helpers -/

/-- In the payload phase at a group at index `idx` of the data region `ws`, in mode `m`. -/
def atGroup (m : Mode) (idx : Nat) (ws : List Byte) : State :=
  { State.reset with
    phase := .payload
    upc := .group
    mode := m
    idx := idx
    dw := ws.length
    dwLoaded := true
    ewLoaded := true
    cw := streamCells ws }

/-- At the start of the RS phase with the stream `ws` loaded. -/
def atRs (dw ew : Nat) (ws : List Byte) : State :=
  { State.reset with
    phase := .rs
    upc := .rsSynd
    dw := dw
    ew := ew
    dwLoaded := true
    ewLoaded := true
    cw := streamCells ws }

/-- A field of the next state. -/
def after {α : Type} (o : Outcome) (f : State → α) : Option α :=
  match o with
  | .next s => some (f s)
  | _ => none

/-- What a group changes: the bytes emitted, `IDX`, `MODE`, `USH`, `SSET`. -/
structure Seen where
  out : List Byte
  idx : Nat
  mode : Mode
  ush : Bool
  sset : ShiftSet
  deriving DecidableEq, Repr

/-- What a group has changed in the next state. -/
def seen (o : Outcome) : Option Seen := after o fun s => ⟨s.out.map Prod.snd, s.idx, s.mode, s.ush, s.sset⟩

/-- What a raised INVALID_PAYLOAD records. -/
structure Record where
  phase : Phase
  result : ResultTag
  cause : Cause
  fidx : Nat
  olen : Nat
  deriving DecidableEq, Repr

/-- The record in the next state. -/
def failed (o : Outcome) : Option Record := after o fun s => ⟨s.phase, s.result, s.cause, s.fidx, s.olen⟩

/-- The record of a payload failure (R216). -/
def failure (c : Cause) (fidx : Nat) : Option Record := some ⟨.done, .payloadFail, c, fidx, 0⟩

/-! ## The operand checks: an ill-formed term for each, and the bounds themselves -/

theorem test_wf_refuses_load :
    (Instr.load (some 1) (some 2) [(3, 0)]).wf = false ∧ (Instr.load (some 1) (some 2) [(2, 0)]).wf = true := by
  decide
theorem test_wf_refuses_ascii :
    (Instr.asc 128).wf = false ∧ (Instr.asc 127).wf = true ∧ (Instr.dig 100).wf = false ∧ (Instr.dig 99).wf = true ∧
    (Instr.rsv233 232).wf = false ∧ (Instr.rsv233 235).wf = false ∧ (Instr.rsv233 234).wf = true ∧
    (Instr.rsv236 235).wf = false ∧ (Instr.rsv236 238).wf = false ∧ (Instr.rsv236 237).wf = true ∧
    (Instr.rsv242 241).wf = false ∧ (Instr.rsv242 242).wf = true := by decide
theorem test_wf_refuses_pairs :
    (Instr.triC40 40 0 0).wf = false ∧ (Instr.triC40 0 40 0).wf = false ∧ (Instr.triC40 0 0 40).wf = false ∧
    (Instr.triC40 39 39 39).wf = true ∧ (Instr.triText 40 0 0).wf = false ∧ (Instr.triText 0 40 0).wf = false ∧
    (Instr.triText 0 0 40).wf = false ∧ (Instr.triX12 40 0 0).wf = false ∧ (Instr.triX12 0 40 0).wf = false ∧
    (Instr.triX12 0 0 40).wf = false := by decide
theorem test_wf_refuses_high_pairs :
    (Instr.rsvPairHiC40 64000).wf = false ∧ (Instr.rsvPairHiC40 65024).wf = false ∧
    (Instr.rsvPairHiC40 65536).wf = false ∧ (Instr.rsvPairHiC40 64001).wf = true ∧
    (Instr.rsvPairHiText 64000).wf = false ∧ (Instr.rsvPairHiText 65279).wf = false ∧
    (Instr.rsvPairHiX12 64000).wf = false ∧ (Instr.rsvPairHiX12 65279).wf = false := by decide
theorem test_wf_refuses_c40_values :
    (Instr.vDigitC40 3).wf = false ∧ (Instr.vDigitC40 14).wf = false ∧ (Instr.vUpperC40 13).wf = false ∧
    (Instr.vUpperC40 40).wf = false ∧ (Instr.vS1C40 32).wf = false ∧ (Instr.rsvS1C40 31).wf = false ∧
    (Instr.vS2aC40 15).wf = false ∧ (Instr.vS2bC40 14).wf = false ∧ (Instr.vS2bC40 22).wf = false ∧
    (Instr.vS2cC40 21).wf = false ∧ (Instr.vS2cC40 27).wf = false ∧ (Instr.rsvS2aC40 27).wf = false ∧
    (Instr.rsvS2aC40 30).wf = false ∧ (Instr.rsvS2bC40 30).wf = false ∧ (Instr.vS3C40 32).wf = false ∧
    (Instr.rsvS3C40 31).wf = false := by decide
theorem test_wf_refuses_text_values :
    (Instr.vDigitText 3).wf = false ∧ (Instr.vDigitText 14).wf = false ∧ (Instr.vLowerText 13).wf = false ∧
    (Instr.vLowerText 40).wf = false ∧ (Instr.vS1Text 32).wf = false ∧ (Instr.rsvS1Text 31).wf = false ∧
    (Instr.vS2aText 15).wf = false ∧ (Instr.vS2bText 14).wf = false ∧ (Instr.vS2bText 22).wf = false ∧
    (Instr.vS2cText 21).wf = false ∧ (Instr.vS2cText 27).wf = false ∧ (Instr.rsvS2aText 27).wf = false ∧
    (Instr.rsvS2aText 30).wf = false ∧ (Instr.rsvS2bText 30).wf = false ∧ (Instr.vS3upperText 0).wf = false ∧
    (Instr.vS3upperText 27).wf = false ∧ (Instr.vS3highText 26).wf = false ∧ (Instr.vS3highText 32).wf = false ∧
    (Instr.rsvS3Text 31).wf = false := by decide
theorem test_wf_refuses_x12_edifact_base256 :
    (Instr.xDigit 3).wf = false ∧ (Instr.xDigit 14).wf = false ∧ (Instr.xUpper 13).wf = false ∧
    (Instr.xUpper 40).wf = false ∧ (Instr.edf 64 0 0 0).wf = false ∧ (Instr.edf 0 64 0 0).wf = false ∧
    (Instr.edf 0 0 64 0).wf = false ∧ (Instr.edf 0 0 0 64).wf = false ∧ (Instr.edf 63 31 0 63).wf = true ∧
    (Instr.eLow 31).wf = false ∧ (Instr.eUnl 4).wf = false ∧ (Instr.eHigh 31).wf = false ∧
    (Instr.eHigh 64).wf = false ∧ (Instr.b256L1 0).wf = false ∧ (Instr.b256L1 250).wf = false ∧
    (Instr.b256L2 249 none).wf = false ∧ (Instr.b256L2 250 (some 0)).wf = true := by decide

/-! ## Decoding written-out codewords (R61 to R69, R190, R202) -/

theorem test_decode_ascii :
    decodeGroup .ascii 1 1 [0] = .ok .rsv0 ∧ decodeGroup .ascii 0 1 [1] = .ok (.asc 0) ∧
    decodeGroup .ascii 0 1 [0b10000000] = .ok (.asc 127) ∧ decodeGroup .ascii 2 1 [129] = .ok .pad ∧
    decodeGroup .ascii 0 1 [130] = .ok (.dig 0) ∧ decodeGroup .ascii 0 1 [229] = .ok (.dig 99) ∧
    decodeGroup .ascii 0 1 [230] = .ok .lc40 ∧ decodeGroup .ascii 0 1 [231] = .ok .lb256 ∧
    decodeGroup .ascii 0 1 [232] = .ok .fnc1 ∧ decodeGroup .ascii 0 1 [234] = .ok (.rsv233 234) ∧
    decodeGroup .ascii 0 1 [235] = .ok .ush := by decide
theorem test_decode_ascii_high :
    decodeGroup .ascii 0 1 [236] = .ok .mac05 ∧ decodeGroup .ascii 0 1 [237] = .ok .mac06 ∧
    decodeGroup .ascii 1 1 [237] = .ok (.rsv236 237) ∧ decodeGroup .ascii 0 1 [238] = .ok .lx12 ∧
    decodeGroup .ascii 0 1 [239] = .ok .ltxt ∧ decodeGroup .ascii 0 1 [240] = .ok .ledf ∧
    decodeGroup .ascii 0 2 [241, 129] = .ok (.eci (some 129)) ∧ decodeGroup .ascii 7 1 [241] = .ok (.eci none) ∧
    decodeGroup .ascii 7 1 [242] = .ok (.rsv242 242) ∧ decodeGroup .ascii 7 1 [254] = .ok (.rsv242 254) := by decide
theorem test_decode_c40 :
    decodeGroup .c40 3 1 [254] = .ok .pairShortC40 ∧ decodeGroup .c40 3 2 [254, 129] = .ok .unlC40 ∧
    decodeGroup .c40 1 2 [0, 0] = .ok .rsvPair0C40 ∧ decodeGroup .c40 1 2 [91, 15] = .ok (.triC40 14 22 30) ∧
    decodeGroup .c40 1 2 [91, 254] = .ok (.triC40 14 28 29) ∧ decodeGroup .c40 1 2 [0, 1] = .ok (.triC40 0 0 0) ∧
    decodeGroup .c40 1 2 [250, 0] = .ok (.triC40 39 39 39) ∧
    decodeGroup .c40 1 2 [250, 1] = .ok (.rsvPairHiC40 64001) := by decide
theorem test_decode_text :
    decodeGroup .text 3 1 [0] = .ok .pairShortText ∧ decodeGroup .text 3 2 [254, 0] = .ok .unlText ∧
    decodeGroup .text 1 2 [0, 0] = .ok .rsvPair0Text ∧ decodeGroup .text 1 2 [12, 171] = .ok (.triText 2 1 2) ∧
    decodeGroup .text 1 2 [255, 255] = .ok (.rsvPairHiText 65535) := by decide
theorem test_decode_x12 :
    decodeGroup .x12 3 1 [66] = .ok .pairShortX12 ∧ decodeGroup .x12 7 2 [254, 66] = .ok .unlX12 ∧
    decodeGroup .x12 1 2 [0, 0] = .ok .rsvPair0X12 ∧ decodeGroup .x12 3 2 [19, 110] = .ok (.triX12 3 4 13) ∧
    decodeGroup .x12 1 2 [250, 1] = .ok (.rsvPairHiX12 64001) := by decide
theorem test_decode_edifact :
    decodeGroup .edifact 1 2 [66, 67] = .ok .edfShort ∧
    decodeGroup .edifact 1 3 [0b00000100, 0b00100000, 0b11000100] = .ok (.edf 1 2 3 4) ∧
    decodeGroup .edifact 1 4 [124, 66, 67, 68] = .ok (.edf 31 4 9 3) ∧
    decodeGroup .edifact 1 3 [1, 232, 63] = .ok (.edf 0 30 32 63) := by decide
theorem test_decode_base256 :
    decodeGroup .base256 1 4 [44, 65, 86, 236] = .ok .b256L0 ∧
    decodeGroup .base256 2 1 [198] = .ok (.b256L1 5) ∧ decodeGroup .base256 1 1 [38] = .ok (.b256L2 250 none) ∧
    decodeGroup .base256 1 3 [39, 200, 87] = .ok (.b256L2 251 (some 7)) := by decide
theorem test_decode_refuses :
    decodeGroup .ascii 0 0 [] = .error .noCodeword ∧ decodeGroup .edifact 0 3 [4, 32] = .error .truncated ∧
    decodeValue .c40 .set0 40 = .error .valueRange ∧ decodeValue .ascii .set0 0 = .error .noSuchMode ∧
    decodeEdfValue 0 64 = .error .valueRange := by decide
theorem test_decode_c40_values :
    [0, 1, 2, 3, 4, 13, 14, 39].map (decodeC40Value .set0) =
      [.sh1C40, .sh2C40, .sh3C40, .vSpC40, .vDigitC40 4, .vDigitC40 13, .vUpperC40 14, .vUpperC40 39] ∧
    [0, 31, 32, 39].map (decodeC40Value .set1) = [.vS1C40 0, .vS1C40 31, .rsvS1C40 32, .rsvS1C40 39] ∧
    [14, 15, 21, 22, 26, 27, 28, 29, 30, 31].map (decodeC40Value .set2) =
      [.vS2aC40 14, .vS2bC40 15, .vS2bC40 21, .vS2cC40 22, .vS2cC40 26, .vS2fnc1C40, .rsvS2aC40 28, .rsvS2aC40 29,
        .vS2ushC40, .rsvS2bC40 31] ∧
    [0, 31, 32].map (decodeC40Value .set3) = [.vS3C40 0, .vS3C40 31, .rsvS3C40 32] := by decide
theorem test_decode_text_values :
    [0, 1, 2, 3, 4, 13, 14, 39].map (decodeTextValue .set0) =
      [.sh1Text, .sh2Text, .sh3Text, .vSpText, .vDigitText 4, .vDigitText 13, .vLowerText 14, .vLowerText 39] ∧
    [0, 31, 32, 39].map (decodeTextValue .set1) = [.vS1Text 0, .vS1Text 31, .rsvS1Text 32, .rsvS1Text 39] ∧
    [14, 15, 21, 22, 26, 27, 28, 29, 30, 31].map (decodeTextValue .set2) =
      [.vS2aText 14, .vS2bText 15, .vS2bText 21, .vS2cText 22, .vS2cText 26, .vS2fnc1Text, .rsvS2aText 28,
        .rsvS2aText 29, .vS2ushText, .rsvS2bText 31] ∧
    [0, 1, 26, 27, 31, 32].map (decodeTextValue .set3) =
      [.vS3graveText, .vS3upperText 1, .vS3upperText 26, .vS3highText 27, .vS3highText 31, .rsvS3Text 32] := by decide
theorem test_decode_x12_edifact_values :
    [0, 1, 2, 3, 4, 13, 14, 39].map decodeX12Value =
      [.xCr, .xStar, .xGt, .xSp, .xDigit 4, .xDigit 13, .xUpper 14, .xUpper 39] ∧
    decodeEdfValue 2 0 = .ok (.eLow 0) ∧ decodeEdfValue 2 30 = .ok (.eLow 30) ∧ decodeEdfValue 2 31 = .ok (.eUnl 2) ∧
    decodeEdfValue 2 32 = .ok (.eHigh 32) ∧ decodeEdfValue 2 63 = .ok (.eHigh 63) := by decide
/-- Words of the opcode table (log 11). -/
theorem test_decode_table_words :
    decodeTableWord 8 142 = some (.dig 12) ∧ decodeTableWord 8 236 = some .mac05 ∧
    decodeTableWord 16 23311 = some (.triC40 14 22 30) ∧ decodeTableWord 24 270532 = some (.edf 1 2 3 4) := by decide
/-- A table word placed by `withFetchWord` is the instruction the very next step runs. -/
theorem test_with_fetch_word :
    fetch (State.reset.withFetchWord 8 142) = .ok (.dig 12) ∧
    seen (step (State.reset.withFetchWord 8 142)) = some ⟨[0x31, 0x32], 1, .ascii, false, .set0⟩ := by decide

/-! ## The field and the solver (95_test_vectors.md sections 2.1, 2.2) -/

/-- G1, G2, G4, G5. -/
theorem test_tables :
    alphaTo 8 = 45 ∧ alphaTo 254 = 150 ∧ alphaTo 255 = 0 ∧ expOf 0 = 255 ∧ expOf 45 = 8 ∧ expOf 255 = 150 ∧
    xtime 128 = 45 ∧ xtime 150 = 1 ∧ gadd 91 255 = 164 := by decide
/-- G6, G7, G8. -/
theorem test_arithmetic :
    gmul 2 128 = 45 ∧ gmul 3 7 = 9 ∧ gmul 0x53 0xCA = 75 ∧ gmul 255 255 = 52 ∧ gmul 0 77 = 0 ∧ ginv 1 = 1 ∧
    ginv 2 = 150 ∧ ginv 255 = 156 ∧ apow 6 = 64 ∧ apow 255 = 1 ∧ apow (-1) = 150 ∧ apow (-255) = 1 ∧
    apow 518 = 45 := by decide
/-- L1 to L4. -/
theorem test_solve :
    solve 2 [[1, 1], [1, 2]] [3, 5] = some [1, 2] ∧ solve 2 [[2, 4], [4, 8]] [6, 12] = some [3, 0] ∧
    solve 2 [[0, 1], [1, 0]] [7, 9] = some [9, 7] ∧ solve 2 [[0, 0], [0, 0]] [0, 0] = some [0, 0] := by
  decide +kernel
/-- L5 to L8. -/
theorem test_solve_inconsistent :
    solve 2 [[178, 72], [46, 178]] [46, 120] = none ∧ solve 0 [] [] = some [] ∧
    solve 2 [[57, 179], [169, 57]] [169, 104] = some [130, 45] ∧
    solve 2 [[2, 128], [4, 114]] [179, 57] = some [1, 142] := by decide +kernel
/-- The examples of R200 and R201. -/
theorem test_unrand :
    unrand 47 1 = 3 ∧ unrand 2 2 = 65 ∧ unrand 153 3 = 66 ∧ unrand 47 4 = 67 ∧ randomize 3 1 = 47 ∧
    randomize 67 4 = 47 ∧ randOffset 253 = 107 ∧ randOffset 254 = 1 ∧ randOffset 255 = 150 := by decide

/-! ## The host's operations and the sequencer -/

theorem test_load :
    after (exec (.load (some 1) (some 1) (streamCells [66, 7])) State.reset) (fun s => (s.dw, s.ew, s.cw)) =
      some (1, 1, [(0, 66), (1, 7)]) ∧
    after (exec (.load none (some 1) []) State.reset) (fun s => (s.dwLoaded, s.ewLoaded)) = some (false, true) := by
  decide
/-- R239: a LOAD may leave the rest as it is. -/
theorem test_load_subset :
    after (exec (.load none (some 0) [(1, 9)]) { atRs 2 2 [1, 2, 3, 4] with phase := .done })
      (fun s => (s.dw, s.ew, s.cw)) = some (2, 0, [(0, 1), (1, 9), (2, 3), (3, 4)]) := by decide
theorem test_start :
    after (exec .start { atRs 1 0 [66] with phase := .done, olen := 4, cause := .reservedValue, fidx := 3 })
      (fun s => (s.phase, s.olen, s.cause, s.fidx)) = some (.rs, 0, .none, 0) := by decide
/-- R236 and log 24: straight after reset, and with only one of `DW` and `EW` written, the load is not complete. -/
theorem test_start_refused :
    (match exec .start State.reset with | .refused r => r == .unloadedStart | _ => false) = true ∧
    (match exec .start { State.reset with dwLoaded := true } with | .refused r => r == .unloadedStart | _ => false) =
      true ∧
    (match exec .start (atRs 0 0 []) with | .refused r => r == .hostBusy | _ => false) = true := by decide
/-- P4: an uncorrectable stream ends the transaction. -/
theorem test_seqBranch :
    after (exec .seqBranch { atRs 0 0 [] with rsstat := .unrecoverable }) (fun s => (s.phase, s.result)) =
      some (.done, .rsFail) ∧
    after (exec .seqBranch { atRs 0 0 [] with rsstat := .repaired }) (fun s => (s.phase, s.upc)) =
      some (.payload, .plInit) := by decide
theorem test_plInit :
    seen (exec .plInit { atGroup .edifact 3 [1, 2, 3] with ush := true, sset := .set2 }) =
      some ⟨[], 0, .ascii, false, .set0⟩ := by decide
theorem test_plLoop :
    after (exec .plLoop (atGroup .ascii 0 [66])) State.upc = some .plDispatch ∧
    after (exec .plLoop (atGroup .ascii 1 [66])) State.upc = some .plEnd := by decide
theorem test_plDispatch : after (exec .plDispatch (atGroup .ascii 0 [66])) State.upc = some .group := by decide
/-- A13. -/
theorem test_plEnd :
    after (exec .plEnd { atGroup .ascii 1 [236] with macroReg := .five }) State.out = some [(0, 0x1E), (1, 0x04)] ∧
    after (exec .plEnd (atGroup .ascii 1 [66])) State.out = some [] := by decide
theorem test_seqDone :
    after (exec .seqDone (atGroup .ascii 1 [66])) (fun s => (s.phase, s.result)) = some (.done, .success) := by decide
theorem test_step_reset_event :
    step { atGroup .ascii 0 [66] with host := [.reset, .start] } = .next { State.reset with host := [.start] } := rfl

/-! ## The RS phase: RS-1, RS-2, RS-8, RS-9 of section 2.3 -/

/-- The stream of RS-2. -/
def rs2 : State := atRs 3 5 [142, 91, 186, 114, 25, 5, 88, 102]

theorem test_rsSynd : after (exec .rsSynd rs2) State.synd = some [245, 47, 242, 194] := by decide +kernel
theorem test_rsZero :
    after (exec .rsZero { rs2 with synd := [245, 47, 242, 194] }) State.upc = some .rsLoc ∧
    after (exec .rsZero { rs2 with synd := [0, 0, 0, 0] }) (fun s => (s.rsstat, s.upc)) = some (.ok, .seqBranch) := by
  decide +kernel
theorem test_rsLoc : after (exec .rsLoc { rs2 with synd := [245, 47, 242, 194] }) State.sig = some [64, 0] := by
  decide +kernel
/-- RS-9. -/
theorem test_rsLoc_inconsistent :
    after (exec .rsLoc { rs2 with synd := [72, 178, 46, 120] }) (fun s => (s.rsstat, s.upc)) =
      some (.unrecoverable, .seqBranch) := by decide +kernel
/-- RS-2 and RS-3. -/
theorem test_rsChien :
    after (exec .rsChien { rs2 with sig := [64, 0] }) (fun s => (s.nroot, s.loc)) = some (1, [6]) ∧
    after (exec .rsChien { rs2 with sig := [130, 45] }) (fun s => (s.nroot, s.loc)) = some (2, [1, 7]) := by
  decide +kernel
/-- RS-8, and the bound `t = 2`. -/
theorem test_rsCount :
    after (exec .rsCount { rs2 with nroot := 0 }) State.rsstat = some .unrecoverable ∧
    after (exec .rsCount { rs2 with nroot := 2 }) State.upc = some .rsMag := by decide
theorem test_rsMag :
    after (exec .rsMag { rs2 with synd := [245, 47, 242, 194], nroot := 1, loc := [6] }) State.y = some [255] := by
  decide +kernel
theorem test_rsCorr :
    after (exec .rsCorr { rs2 with nroot := 1, loc := [6], y := [255] }) (fun s => s.cw.map Prod.snd) =
      some [142, 164, 186, 114, 25, 5, 88, 102] := by decide +kernel
theorem test_rsEnd : after (exec .rsEnd rs2) State.rsstat = some .repaired := by decide

/-! ## ASCII (section 2.4) -/

/-- A7, A8. -/
theorem test_asc :
    seen (exec (.asc 127) (atGroup .ascii 0 [128])) = some ⟨[0x7F], 1, .ascii, false, .set0⟩ ∧
    seen (exec (.asc 127) { atGroup .ascii 0 [128] with ush := true }) = some ⟨[0xFF], 1, .ascii, false, .set0⟩ := by
  decide
/-- A6: digits leave the upper shift pending. -/
theorem test_dig :
    seen (exec (.dig 12) { atGroup .ascii 1 [235, 142, 66] with ush := true }) =
      some ⟨[0x31, 0x32], 2, .ascii, true, .set0⟩ := by decide
/-- A9. -/
theorem test_pad : seen (exec .pad (atGroup .ascii 1 [66, 129, 67])) = some ⟨[], 3, .ascii, false, .set0⟩ := by decide
/-- A15, and the latches' own rules. -/
theorem test_latches :
    seen (exec .lc40 { atGroup .ascii 1 [235, 230] with ush := true }) = some ⟨[], 2, .c40, false, .set0⟩ ∧
    seen (exec .ltxt { atGroup .ascii 1 [235, 239] with ush := true }) = some ⟨[], 2, .text, false, .set0⟩ ∧
    seen (exec .lx12 { atGroup .ascii 1 [235, 238] with ush := true }) = some ⟨[], 2, .x12, false, .set0⟩ ∧
    seen (exec .ledf { atGroup .ascii 1 [235, 240] with ush := true }) = some ⟨[], 2, .edifact, false, .set0⟩ ∧
    seen (exec .lb256 { atGroup .ascii 1 [235, 231] with ush := true }) = some ⟨[], 2, .base256, false, .set0⟩ := by
  decide
/-- A11d, A11e: the upper shift survives FNC1 and ECI. -/
theorem test_fnc1_ush :
    seen (exec .fnc1 { atGroup .ascii 1 [235, 232] with ush := true }) = some ⟨[], 2, .ascii, true, .set0⟩ ∧
    seen (exec .ush (atGroup .ascii 0 [235])) = some ⟨[], 1, .ascii, true, .set0⟩ := by decide
/-- A11, A11b. -/
theorem test_eci :
    seen (exec (.eci (some 129)) (atGroup .ascii 0 [241, 129, 66])) = some ⟨[], 2, .ascii, false, .set0⟩ ∧
    seen (exec (.eci none) (atGroup .ascii 1 [66, 241])) = some ⟨[], 2, .ascii, false, .set0⟩ := by decide
/-- A13, A13b. -/
theorem test_macro_headers :
    after (exec .mac05 (atGroup .ascii 0 [236])) (fun s => (s.out.map Prod.snd, s.macroReg, s.idx)) =
      some ([0x5B, 0x29, 0x3E, 0x1E, 0x30, 0x35, 0x1D], .five, 1) ∧
    after (exec .mac06 (atGroup .ascii 0 [237])) (fun s => (s.out.map Prod.snd, s.macroReg, s.idx)) =
      some ([0x5B, 0x29, 0x3E, 0x1E, 0x30, 0x36, 0x1D], .six, 1) := by decide
/-- A12a, A12b, through the fetch. -/
theorem test_reserved_codewords :
    failed (step (atGroup .ascii 0 [0])) = failure .reservedCodeword 0 ∧
    failed (step (atGroup .ascii 0 [233])) = failure .reservedCodeword 0 ∧
    failed (step (atGroup .ascii 1 [66, 236])) = failure .reservedCodeword 1 ∧
    failed (step (atGroup .ascii 0 [255])) = failure .reservedCodeword 0 := by decide

/-! ## C40, Text, X12 (section 2.5) -/

/-- C1, C2, C5 and the X12 letters of X3. -/
theorem test_triples :
    seen (step (atGroup .c40 1 [230, 91, 15])) = some ⟨[0x41, 0x49, 0x51], 3, .c40, false, .set0⟩ ∧
    seen (step (atGroup .text 1 [239, 91, 15])) = some ⟨[0x61, 0x69, 0x71], 3, .text, false, .set0⟩ ∧
    seen (step (atGroup .x12 1 [238, 91, 15])) = some ⟨[0x41, 0x49, 0x51], 3, .x12, false, .set0⟩ := by decide
/-- C8 and C4. -/
theorem test_triples_with_shifts :
    seen (step (atGroup .c40 1 [230, 10, 255])) = some ⟨[0xC1], 3, .c40, false, .set0⟩ ∧
    seen (step (atGroup .c40 1 [230, 12, 172])) = some ⟨[0x61, 0x20], 3, .c40, false, .set0⟩ ∧
    seen (step (atGroup .text 1 [239, 12, 171])) = some ⟨[0x41], 3, .text, false, .set3⟩ := by decide
/-- C1, C2, C3: a pending shift is dropped. -/
theorem test_pair_runs_end :
    seen (exec .pairShortC40 { atGroup .c40 3 [230, 91, 15, 66] with sset := .set2, ush := true }) =
      some ⟨[], 3, .ascii, false, .set0⟩ ∧
    seen (exec .pairShortText (atGroup .text 3 [239, 91, 15, 66])) = some ⟨[], 3, .ascii, false, .set0⟩ ∧
    seen (exec .pairShortX12 (atGroup .x12 3 [238, 91, 15, 66])) = some ⟨[], 3, .ascii, false, .set0⟩ ∧
    seen (exec .unlC40 { atGroup .c40 3 [230, 19, 58, 254, 66] with sset := .set2 }) =
      some ⟨[], 4, .ascii, false, .set0⟩ ∧
    seen (exec .unlText (atGroup .text 1 [239, 254, 66])) = some ⟨[], 2, .ascii, false, .set0⟩ ∧
    seen (exec .unlX12 (atGroup .x12 7 [238, 0, 43, 19, 110, 93, 156, 254, 66])) =
      some ⟨[], 8, .ascii, false, .set0⟩ := by decide
/-- CF5, CF6, CF7. -/
theorem test_reserved_pairs :
    failed (step (atGroup .c40 1 [230, 0, 0])) = failure .reservedTriple 1 ∧
    failed (step (atGroup .text 1 [239, 0, 0])) = failure .reservedTriple 1 ∧
    failed (step (atGroup .x12 1 [238, 0, 0])) = failure .reservedTriple 1 ∧
    failed (step (atGroup .c40 1 [230, 250, 1])) = failure .reservedTriple 1 ∧
    failed (step (atGroup .text 1 [239, 255, 255])) = failure .reservedTriple 1 ∧
    failed (step (atGroup .x12 1 [238, 250, 1])) = failure .reservedTriple 1 := by decide
/-- CF1 to CF4. -/
theorem test_reserved_values_end_the_pair :
    failed (step (atGroup .c40 1 [230, 5, 4])) = failure .reservedValue 1 ∧
    failed (step (atGroup .c40 1 [230, 10, 164])) = failure .reservedValue 1 ∧
    failed (step (atGroup .text 1 [239, 11, 28])) = failure .reservedValue 1 ∧
    failed (step (atGroup .text 1 [239, 17, 132])) = failure .reservedValue 1 := by decide

/-- A value in mode `m` under shift set `ss`, the upper shift pending. -/
def atValue (m : Mode) (ss : ShiftSet) : State := { atGroup m 1 [0, 0, 0] with sset := ss, ush := true }

/-- What a value row changes: the bytes emitted, `USH`, `SSET`. -/
structure Valued where
  out : List Byte
  ush : Bool
  sset : ShiftSet
  deriving DecidableEq, Repr

/-- What a value row has changed in the next state. -/
def valued (o : Outcome) : Option Valued := after o fun s => ⟨s.out.map Prod.snd, s.ush, s.sset⟩

theorem test_shifts :
    valued (exec .sh1C40 (atValue .c40 .set0)) = some ⟨[], true, .set1⟩ ∧
    valued (exec .sh2C40 (atValue .c40 .set0)) = some ⟨[], true, .set2⟩ ∧
    valued (exec .sh3C40 (atValue .c40 .set0)) = some ⟨[], true, .set3⟩ ∧
    valued (exec .sh1Text (atValue .text .set0)) = some ⟨[], true, .set1⟩ ∧
    valued (exec .sh2Text (atValue .text .set0)) = some ⟨[], true, .set2⟩ ∧
    valued (exec .sh3Text (atValue .text .set0)) = some ⟨[], true, .set3⟩ := by decide
/-- R166 to R168: the last digit is 9, the last letter Z or z. -/
theorem test_basic_values :
    valued (exec .vSpC40 (atValue .c40 .set0)) = some ⟨[0xA0], false, .set0⟩ ∧
    valued (exec (.vDigitC40 13) (atValue .c40 .set0)) = some ⟨[0xB9], false, .set0⟩ ∧
    valued (exec (.vUpperC40 39) (atValue .c40 .set0)) = some ⟨[0xDA], false, .set0⟩ ∧
    valued (exec .vSpText (atValue .text .set0)) = some ⟨[0xA0], false, .set0⟩ ∧
    valued (exec (.vDigitText 4) (atValue .text .set0)) = some ⟨[0xB0], false, .set0⟩ ∧
    valued (exec (.vLowerText 39) (atValue .text .set0)) = some ⟨[0xFA], false, .set0⟩ := by decide
/-- R169, R170, R173: the ends of each range, in C40. -/
theorem test_shifted_values_c40 :
    valued (exec (.vS1C40 31) (atValue .c40 .set1)) = some ⟨[0x9F], false, .set0⟩ ∧
    valued (exec (.vS2aC40 14) (atValue .c40 .set2)) = some ⟨[0xAF], false, .set0⟩ ∧
    valued (exec (.vS2bC40 21) (atValue .c40 .set2)) = some ⟨[0xC0], false, .set0⟩ ∧
    valued (exec (.vS2cC40 26) (atValue .c40 .set2)) = some ⟨[0xDF], false, .set0⟩ ∧
    valued (exec (.vS3C40 31) (atValue .c40 .set3)) = some ⟨[0xFF], false, .set0⟩ ∧
    valued (exec .vS2fnc1C40 (atValue .c40 .set2)) = some ⟨[], true, .set0⟩ ∧
    valued (exec .vS2ushC40 (atGroup .c40 1 [0, 0, 0])) = some ⟨[], true, .set0⟩ := by decide
/-- R169, R170, R173 and C10: the ends of each range, in Text. -/
theorem test_shifted_values_text :
    valued (exec (.vS1Text 0) (atValue .text .set1)) = some ⟨[0x80], false, .set0⟩ ∧
    valued (exec (.vS2aText 0) (atValue .text .set2)) = some ⟨[0xA1], false, .set0⟩ ∧
    valued (exec (.vS2bText 15) (atValue .text .set2)) = some ⟨[0xBA], false, .set0⟩ ∧
    valued (exec (.vS2cText 22) (atValue .text .set2)) = some ⟨[0xDB], false, .set0⟩ ∧
    valued (exec .vS3graveText (atValue .text .set3)) = some ⟨[0xE0], false, .set0⟩ ∧
    valued (exec (.vS3upperText 26) (atValue .text .set3)) = some ⟨[0xDA], false, .set0⟩ ∧
    valued (exec (.vS3highText 31) (atValue .text .set3)) = some ⟨[0xFF], false, .set0⟩ ∧
    valued (exec .vS2fnc1Text (atValue .text .set2)) = some ⟨[], true, .set0⟩ ∧
    valued (exec .vS2ushText (atGroup .text 1 [0, 0, 0])) = some ⟨[], true, .set0⟩ := by decide
theorem test_reserved_values_c40 :
    failed (exec (.rsvS1C40 32) (atValue .c40 .set1)) = failure .reservedValue 1 ∧
    failed (exec (.rsvS2aC40 28) (atValue .c40 .set2)) = failure .reservedValue 1 ∧
    failed (exec (.rsvS2bC40 31) (atValue .c40 .set2)) = failure .reservedValue 1 ∧
    failed (exec (.rsvS3C40 39) (atValue .c40 .set3)) = failure .reservedValue 1 := by decide
theorem test_reserved_values_text :
    failed (exec (.rsvS1Text 39) (atValue .text .set1)) = failure .reservedValue 1 ∧
    failed (exec (.rsvS2aText 29) (atValue .text .set2)) = failure .reservedValue 1 ∧
    failed (exec (.rsvS2bText 39) (atValue .text .set2)) = failure .reservedValue 1 ∧
    failed (exec (.rsvS3Text 32) (atValue .text .set3)) = failure .reservedValue 1 := by decide
/-- X1: every X12 range. -/
theorem test_x12_values :
    valued (exec .xCr (atGroup .x12 1 [0])) = some ⟨[0x0D], false, .set0⟩ ∧
    valued (exec .xStar (atGroup .x12 1 [0])) = some ⟨[0x2A], false, .set0⟩ ∧
    valued (exec .xGt (atGroup .x12 1 [0])) = some ⟨[0x3E], false, .set0⟩ ∧
    valued (exec .xSp (atGroup .x12 1 [0])) = some ⟨[0x20], false, .set0⟩ ∧
    valued (exec (.xDigit 13) (atGroup .x12 1 [0])) = some ⟨[0x39], false, .set0⟩ ∧
    valued (exec (.xUpper 39) (atGroup .x12 1 [0])) = some ⟨[0x5A], false, .set0⟩ := by decide

/-! ## EDIFACT (section 2.6) -/

/-- E7 and E6. -/
theorem test_edifact :
    seen (step (atGroup .edifact 1 [240, 4, 32, 196])) = some ⟨[0x41, 0x42, 0x43, 0x44], 4, .edifact, false, .set0⟩ ∧
    seen (step (atGroup .edifact 1 [240, 66, 67])) = some ⟨[], 1, .ascii, false, .set0⟩ := by decide
/-- E1, E2, E3, E4. -/
theorem test_edifact_unlatch :
    seen (step (atGroup .edifact 1 [240, 124, 66, 67, 68])) = some ⟨[], 2, .ascii, false, .set0⟩ ∧
    seen (step (atGroup .edifact 1 [240, 5, 240, 240])) = some ⟨[0x41], 3, .ascii, false, .set0⟩ ∧
    seen (step (atGroup .edifact 1 [240, 4, 39, 192])) = some ⟨[0x41, 0x42], 4, .ascii, false, .set0⟩ ∧
    seen (step (atGroup .edifact 1 [240, 4, 32, 223])) = some ⟨[0x41, 0x42, 0x43], 4, .ascii, false, .set0⟩ := by
  decide
/-- E5, and the resume of each place. -/
theorem test_edifact_values :
    valued (exec (.eLow 30) (atGroup .edifact 1 [0])) = some ⟨[0x5E], false, .set0⟩ ∧
    valued (exec (.eHigh 32) (atGroup .edifact 1 [0])) = some ⟨[0x20], false, .set0⟩ ∧
    seen (exec (.eUnl 0) (atGroup .edifact 1 [0])) = some ⟨[], 2, .ascii, false, .set0⟩ ∧
    seen (exec (.eUnl 3) (atGroup .edifact 1 [0])) = some ⟨[], 4, .ascii, false, .set0⟩ := by decide

/-! ## Base256 (section 2.7) -/

/-- B1, B5. -/
theorem test_base256_rest :
    seen (step (atGroup .base256 1 [231, 44, 65, 86, 236])) = some ⟨[0x80, 0xFF, 0x00], 5, .ascii, false, .set0⟩ ∧
    seen (step (atGroup .base256 1 [231, 44])) = some ⟨[], 2, .ascii, false, .set0⟩ := by decide
/-- B6, and B7: one codeword short. -/
theorem test_base256_one_byte_length :
    seen (step (atGroup .base256 1 [231, 47, 2, 153, 47, 129, 129, 129])) =
      some ⟨[0x41, 0x42, 0x43], 5, .ascii, false, .set0⟩ ∧
    failed (step (atGroup .base256 1 [231, 47, 2, 153])) = failure .b256Overrun 1 := by decide
/-- B8, and a two-byte length of 250 (R203) with 249 codewords left. -/
theorem test_base256_two_byte_length :
    failed (step (atGroup .base256 1 [231, 38])) = failure .b256Overrun 1 ∧
    failed (exec (.b256L2 250 (some 0)) { atGroup .base256 1 [] with dw := 252 }) = failure .b256Overrun 1 ∧
    b256Len2 251 7 = 507 := by decide

/-! ## Witnesses: for each statement with hypotheses, values that meet them together, each clause at its bounds -/

/-- A valid stream of section 2.3. -/
def validStream : List Byte := [142, 164, 186, 114, 25, 5, 88, 102]

/-- A state in IDLE with a stream loaded. -/
def atIdle (dw ew : Nat) (ws : List Byte) : State :=
  { State.reset with dw := dw, ew := ew, dwLoaded := true, ewLoaded := true, cw := streamCells ws }

theorem witness_AlphaTableIsPowersOfX :
    253 ≤ 253 ∧ (alphaTo 6).toNat < 128 ∧ 128 ≤ (alphaTo 7).toNat ∧ 254 ≤ 254 ∧ alphaTo 254 = alphaTo 254 := by decide
theorem witness_ExpTableInvertsAlphaTable : (1 : Byte) ≠ 0 ∧ (255 : Byte) ≠ 0 ∧ alphaTo 0 = 1 ∧ alphaTo 254 = 150 := by
  decide
theorem witness_FieldLaws : (255 : Byte) ≠ 0 ∧ apow (-255) = apow 0 ∧ (-255 : Int) % 255 = 0 % 255 ∧
    ¬((255 : Byte) = 0 ∨ (1 : Byte) = 0) ∧ ((0 : Byte) = 0 ∨ (255 : Byte) = 0) := by decide
theorem witness_SolveFindsASolutionOrThereIsNone :
    ([[1, 1], [1, 2]] : List (List Byte)).length = 2 ∧ (∀ row ∈ ([[1, 1], [1, 2]] : List (List Byte)), row.length = 2) ∧
    ([3, 5] : List Byte).length = 2 ∧ solve 2 [[1, 1], [1, 2]] [3, 5] = some [1, 2] ∧
    solve 2 [[1, 1], [1, 1]] [3, 5] = none ∧ solve 0 [] [] = some [] := by decide +kernel
theorem witness_SolveSetsFreeUnknownsToZero :
    solve 2 [[2, 4], [4, 8]] [6, 12] = some [3, 0] ∧ FreeColumn 2 [[2, 4], [4, 8]] 1 ∧
    solve 2 [[0, 1], [0, 1]] [7, 7] = some [0, 7] ∧ FreeColumn 2 [[0, 1], [0, 1]] 0 := by
  refine ⟨by decide +kernel, ⟨fun _ => 2, ?_⟩, by decide +kernel, ⟨fun _ => 0, ?_⟩⟩
  · decide +kernel
  · decide +kernel
/-- Every group row, each operand at a bound. -/
theorem witness_GroupsDecodeAsEncoded :
    ∀ p ∈ ([(.rsv0, .ascii, 0, [0]), (.asc 127, .ascii, 1, [128, 5]), (.pad, .ascii, 0, [129]),
        (.dig 99, .ascii, 0, [229]), (.lc40, .ascii, 0, [230]), (.lb256, .ascii, 0, [231]), (.fnc1, .ascii, 0, [232]),
        (.rsv233 234, .ascii, 0, [234]), (.ush, .ascii, 0, [235]), (.mac05, .ascii, 0, [236]),
        (.mac06, .ascii, 0, [237]), (.rsv236 236, .ascii, 1, [236]), (.lx12, .ascii, 0, [238]),
        (.ltxt, .ascii, 0, [239]), (.ledf, .ascii, 0, [240]), (.eci none, .ascii, 0, [241]),
        (.eci (some 255), .ascii, 0, [241, 255]), (.rsv242 255, .ascii, 0, [255])] :
        List (Instr × Mode × Nat × List Byte)),
      p.1.wf = true ∧ p.1.isGroup = true ∧ p.1.mode = some p.2.1 ∧ p.1.fits p.2.2.1 p.2.2.2 = true := by decide
theorem witness_GroupsDecodeAsEncoded_other_modes :
    ∀ p ∈ ([(.pairShortC40, .c40, 3, [254]), (.unlC40, .c40, 3, [254, 0]), (.rsvPair0C40, .c40, 0, [0, 0]),
        (.triC40 39 39 39, .c40, 1, [250, 0]), (.rsvPairHiC40 64001, .c40, 1, [250, 1]),
        (.pairShortText, .text, 3, [1]), (.unlText, .text, 3, [254, 9]), (.rsvPair0Text, .text, 0, [0, 0, 4]),
        (.triText 0 0 0, .text, 1, [0, 1]), (.rsvPairHiText 65535, .text, 1, [255, 255]),
        (.pairShortX12, .x12, 3, [1]), (.unlX12, .x12, 3, [254, 9]), (.rsvPair0X12, .x12, 0, [0, 0]),
        (.triX12 0 39 0, .x12, 1, [6, 25]), (.rsvPairHiX12 64001, .x12, 1, [250, 1, 0]),
        (.edfShort, .edifact, 0, [9, 9]), (.edf 63 0 63 31, .edifact, 0, [252, 15, 223]),
        (.b256L0, .base256, 1, [44]), (.b256L1 249, .base256, 1, [37]), (.b256L2 255 none, .base256, 1, [43]),
        (.b256L2 250 (some 0), .base256, 1, [38, 193])] : List (Instr × Mode × Nat × List Byte)),
      p.1.wf = true ∧ p.1.isGroup = true ∧ p.1.mode = some p.2.1 ∧ p.1.fits p.2.2.1 p.2.2.2 = true := by decide
theorem witness_DecodedGroupsAreWellFormed : decodeGroup .c40 1 3 [250, 1, 9] = .ok (.rsvPairHiC40 64001) := by decide
theorem witness_EveryNonEmptyDataRegionDecodes : ([255] : List Byte) ≠ [] := by decide
theorem witness_ValuesDecodeAsEncoded :
    (Instr.rsvS2bC40 39).wf = true ∧ encodeValue (.rsvS2bC40 39) = some 39 ∧ (Instr.rsvS2bC40 39).mode = some .c40 ∧
    (Instr.rsvS2bC40 39).shiftSet = some .set2 ∧ (Instr.xUpper 39).wf = true ∧ (Instr.xUpper 39).mode = some .x12 ∧
    (Instr.xUpper 39).shiftSet = none ∧ (39 : Nat) ≤ 39 ∧ (3 : Nat) ≤ 3 ∧ (63 : Nat) ≤ 63 ∧ (30 : Nat) ≤ 30 ∧
    (32 : Nat) ≤ 32 := by decide
theorem witness_StepRunsTheDecodedGroup :
    (atGroup .ascii 1 [66, 142]).phase = .payload ∧ (atGroup .ascii 1 [66, 142]).upc = .group ∧
    ([142] : List Byte).length = min (2 - 1) 3 ∧ Holds (atGroup .ascii 1 [66, 142]) 1 [142] ∧
    decodeGroup .ascii 1 (2 - 1) [142] = .ok (.dig 12) ∧ (Instr.dig 12).wf = true ∧
    (atGroup .ascii 1 [66, 142]).hostQuiet = true := by
  refine ⟨rfl, rfl, rfl, ?_, by decide, rfl, rfl⟩
  unfold Holds
  decide
/-- The same group behind a `wait` of the host. -/
theorem witness_StepRunsTheDecodedGroup_wait :
    ({ atGroup .ascii 1 [66, 142] with host := [.wait, .start] } : State).host = .wait :: [.start] ∧
    Holds { atGroup .ascii 1 [66, 142] with host := [.wait, .start] } 1 [142] ∧
    seen (step { atGroup .ascii 1 [66, 142] with host := [.wait, .start] }) =
      some ⟨[0x31, 0x32], 2, .ascii, false, .set0⟩ := by
  refine ⟨rfl, ?_, by decide⟩
  unfold Holds
  decide
theorem witness_StepRunsTheMicroOperation :
    ({ atRs 3 5 validStream with upc := .rsEnd } : State).busy = true ∧
    ({ atRs 3 5 validStream with upc := .rsEnd } : State).hostQuiet = true ∧
    (after (exec .rsEnd (atRs 3 5 validStream)) State.upc).isSome = true ∧
    (after (exec .rsCorr (atRs 3 5 validStream)) State.upc).isSome = true ∧
    after (exec .seqBranch (atRs 3 5 validStream)) State.phase = some .payload ∧
    (Instr.dig 12).isGroup = true ∧ after (exec (.dig 12) (atGroup .ascii 0 [142])) State.phase = some .payload := by
  decide
theorem witness_StepTakesTheHostEvent :
    State.reset.busy = false ∧ ({ State.reset with phase := .done } : State).busy = false ∧
    ({ State.reset with host := [.start, .wait] } : State).host = .start :: [.wait] := by decide
theorem witness_LoadWritesTheStream :
    State.reset.busy = false ∧ validStream.length = 3 + 5 ∧ ([] : List Byte).length = 0 + 0 := by decide
theorem witness_LoadOfASubsetKeepsTheRest :
    (atIdle 3 5 validStream).busy = false ∧
    (∀ p ∈ ([(7, 1), (0, 2)] : List (Nat × Byte)), p.1 < (none : Option Nat).getD 3 + (some 5).getD 0) ∧
    ([(7, 1), (0, 2)] : List (Nat × Byte)).Pairwise (fun p q => p.1 ≠ q.1) := by decide
theorem witness_StartBeginsATransaction :
    (atIdle 3 5 validStream).busy = false ∧ (atIdle 3 5 validStream).dwLoaded = true ∧
    (atIdle 3 5 validStream).ewLoaded = true ∧ ∀ i, i < 8 → (atIdle 3 5 validStream).cw.read i ≠ none := by decide
theorem witness_HostOutsideTheProtocolIsRefused :
    (atRs 0 0 []).busy = true ∧ (atIdle 1 0 []).busy = false ∧ 0 < (atIdle 1 0 []).n ∧
    (atIdle 1 0 []).cw.read 0 = none ∧ State.reset.busy = false ∧ State.reset.dwLoaded = false ∧
    ({ State.reset with dwLoaded := true } : State).ewLoaded = false ∧
    [(7, 1), (8, 2), (9, 3)].find? (fun d : Nat × Byte => decide ((some 3).getD 0 + (none : Option Nat).getD 5 ≤ d.1)) =
      some (8, 2) := by decide
theorem witness_RsSyndComputesTheSyndromes :
    validStream.length = (atRs 3 5 validStream).n ∧ Holds (atRs 3 5 validStream) 0 validStream ∧
    4 ≤ 2 * (atRs 3 5 validStream).t := by
  refine ⟨by decide, ?_, by decide⟩
  unfold Holds
  decide
theorem witness_RsZeroReturnsOkOnZeroSyndromes :
    (∀ i, i ≤ 2 * (atRs 3 5 []).t → syndAt { atRs 3 5 [] with synd := [0, 0, 0, 0] } i = 0) ∧
    syndAt { atRs 3 5 [] with synd := [0, 0, 0, 1] } 4 ≠ 0 ∧ 4 ≤ 2 * (atRs 3 5 []).t := by decide
theorem witness_RsLocSolvesTheLocatorSystem :
    solve 2 (matrixOf 2 fun i k => syndAt { rs2 with synd := [245, 47, 242, 194] } (2 + i - k)) [242, 194] =
      some [64, 0] ∧
    solve 2 (matrixOf 2 fun i k => syndAt { rs2 with synd := [72, 178, 46, 120] } (2 + i - k)) [46, 120] = none := by
  decide +kernel
theorem witness_RsCountChecksTheRootCount :
    ({ rs2 with nroot := 0 } : State).nroot = 0 ∧ rs2.t < 3 ∧ 1 ≤ 1 ∧ 2 ≤ rs2.t := by decide
/-- Two roots 2 and 257 alias, so that the system of R123 has two equal columns (R124, R129). -/
theorem witness_RsMagSolvesTheMagnitudeSystem :
    solve 1 (matrixOf 1 fun i k => apow ((locAt { rs2 with loc := [6] } k * (i + 1) : Nat) : Int)) [245] =
      some [255] ∧
    solve 2 (matrixOf 2 fun i k => apow ((locAt { rs2 with loc := [2, 257] } k * (i + 1) : Nat) : Int)) [1, 1] =
      none := by decide +kernel
/-- The two errors of RS-3. -/
def rs3 : State := { atRs 3 5 [0, 164, 186, 114, 25, 5, 89, 102] with nroot := 2, loc := [0, 7], y := [1, 142] }

theorem witness_RsCorrAddsTheMagnitudes :
    (∀ k, k < 2 → locAt rs3 k < rs3.n) ∧ (∀ k, k < 2 → ∀ l, l < 2 → locAt rs3 k = locAt rs3 l → k = l) ∧
    ∀ k, k < 2 → rs3.cw.read (rs3.n - 1 - locAt rs3 k) ≠ none := by decide

/-- The stream of section 2.3 is a codeword of the code. -/
theorem witness_IsCodeword : IsCodeword 5 validStream := by
  have h : ∀ i : Fin 6, 1 ≤ i.val → syndrome validStream i = 0 := by decide +kernel
  intro i h1 h5
  exact h ⟨i, by omega⟩ h1

theorem witness_ZeroSyndromeStreamIsOk :
    (atRs 3 5 validStream).phase = .rs ∧ (atRs 3 5 validStream).upc = .rsSynd ∧
    (atRs 3 5 validStream).host = [] ∧ validStream.length = (atRs 3 5 validStream).n ∧
    Holds (atRs 3 5 validStream) 0 validStream ∧
    ∀ i, 1 ≤ i → i ≤ 2 * (atRs 3 5 validStream).t → syndrome validStream i = 0 := by
  refine ⟨rfl, rfl, rfl, rfl, ?_, fun i h1 h4 => witness_IsCodeword i h1 (Nat.le_trans h4 (by decide))⟩
  unfold Holds
  decide
/-- RS-4: the last cell. -/
theorem witness_OneWrongCodewordIsRepaired :
    (atRs 3 5 (validStream.set 7 103)).n ≤ 255 ∧ 1 ≤ (atRs 3 5 (validStream.set 7 103)).t ∧
    validStream.length = 8 ∧ IsCodeword 5 validStream ∧ (7 < 8) ∧ (1 : Byte) ≠ 0 ∧
    Holds (atRs 3 5 (validStream.set 7 103)) 0 (validStream.set 7 (validStream.getD 7 0 ^^^ 1)) := by
  refine ⟨by decide, by decide, rfl, witness_IsCodeword, by decide, by decide, ?_⟩
  unfold Holds
  decide
/-- RS-1 (no wrong codeword) and RS-3 (`t = 2` of them). -/
theorem witness_UpToTErrorsAreCorrected :
    (atRs 3 5 validStream).n ≤ 255 ∧ IsCodeword 5 validStream ∧ errorCount 8 validStream validStream = 0 ∧
    errorCount 8 validStream [0, 164, 186, 114, 25, 5, 89, 102] = 2 ∧ 2 ≤ (atRs 3 5 validStream).t ∧
    Holds (atRs 3 5 [0, 164, 186, 114, 25, 5, 89, 102]) 0 [0, 164, 186, 114, 25, 5, 89, 102] := by
  refine ⟨by decide, witness_IsCodeword, by decide, by decide, by decide, ?_⟩
  unfold Holds
  decide
/-- RS-8. -/
theorem witness_UnrecoverableLeavesCwAsLoaded :
    after (Host.Core.run Sys2Proof.core 6 (atRs 3 5 [142, 169, 186, 97, 25, 162, 88, 102]))
      (fun s => (s.phase, s.rsstat)) = some (.done, .unrecoverable) := by decide +kernel
theorem witness_SeqBranchFollowsTheOutcome :
    ({ rs2 with rsstat := .unrecoverable } : State).rsstat = .unrecoverable ∧
    ({ rs2 with rsstat := .repaired } : State).rsstat = .repaired ∧ rs2.rsstat = .ok := by decide
theorem witness_PayloadFrameRuns :
    (atGroup .ascii 0 [66]).idx < (atGroup .ascii 0 [66]).dw ∧ (atGroup .ascii 1 [66]).dw ≤ 1 := by decide
theorem witness_PayloadEndEmitsTheTrailer :
    (atGroup .ascii 1 [66]).macroReg = .zero ∧ ({ rs2 with macroReg := .six } : State).macroReg ≠ .zero ∧
    rs2.cause = .none ∧ ({ rs2 with cause := .reservedValue } : State).cause ≠ .none := by decide
theorem witness_AscEmitsUnderUpperShift : 0 ≤ 127 ∧ 127 ≤ 127 := by decide
theorem witness_DigEmitsTwoDigits : 0 ≤ 99 ∧ 99 ≤ 99 := by decide
theorem witness_ReservedCodewordsFail :
    (233 : Byte).toNat = 233 ∧ 242 ≤ (242 : Byte).toNat ∧ 242 ≤ (255 : Byte).toNat := by decide
theorem witness_PairRunsEnd :
    Instr.pairShortX12 ∈ [Instr.pairShortC40, .pairShortText, .pairShortX12] ∧
    Instr.unlX12 ∈ [Instr.unlC40, .unlText, .unlX12] := by decide
theorem witness_ReservedPairsFail :
    64000 < 64001 ∧ 64001 ≤ 65535 ∧ 65535 ≤ 65535 ∧
    Instr.rsvPair0X12 ∈ [Instr.rsvPair0C40, .rsvPair0Text, .rsvPair0X12] := by decide
theorem witness_TripleRunsItsRows :
    runRows .c40 [0, 32, 3] (atGroup .c40 1 [230, 5, 4]) =
      some (payloadFault .reservedValue { atGroup .c40 1 [230, 5, 4] with sset := .set1 }, true) ∧
    (runRows .c40 [39, 39, 39] (atGroup .c40 1 [230, 250, 0])).isSome = true ∧ 39 ≤ 39 := by decide
theorem witness_BasicTriplesEmitThreeCharacters :
    (atGroup .text 1 [239, 250, 0]).sset = .set0 ∧ 3 ≤ 3 ∧ 3 ≤ 39 ∧ 39 ≤ 39 := by decide
theorem witness_X12TriplesEmitThreeCharacters : 0 ≤ 39 ∧ 39 ≤ 39 := by decide
theorem witness_ShiftValuesSelectTheSet :
    Instr.sh1Text ∈ [Instr.sh1C40, .sh1Text] ∧ Instr.sh2Text ∈ [Instr.sh2C40, .sh2Text] ∧
    Instr.sh3Text ∈ [Instr.sh3C40, .sh3Text] := by decide
theorem witness_BasicValuesEmitTheirCharacter :
    (∃ v, 4 ≤ v ∧ v ≤ 13 ∧ Instr.vDigitC40 13 = .vDigitC40 v ∧ 0x39 = 0x30 + (v - 4)) ∧
    (∃ v, 14 ≤ v ∧ v ≤ 39 ∧ Instr.vUpperC40 14 = .vUpperC40 v ∧ 0x41 = 0x41 + (v - 14)) ∧
    (∃ v, 14 ≤ v ∧ v ≤ 39 ∧ Instr.vLowerText 39 = .vLowerText v ∧ 0x7A = 0x61 + (v - 14)) :=
  ⟨⟨13, by decide⟩, ⟨14, by decide⟩, ⟨39, by decide⟩⟩
theorem witness_ShiftedValuesEmitTheirCharacter :
    (∃ v, v ≤ 31 ∧ Instr.vS1Text 31 = .vS1Text v ∧ 31 = v) ∧
    (∃ v, v ≤ 14 ∧ Instr.vS2aC40 14 = .vS2aC40 v ∧ 0x2F = 0x21 + v) ∧
    (∃ v, 15 ≤ v ∧ v ≤ 21 ∧ Instr.vS2bC40 21 = .vS2bC40 v ∧ 0x40 = 0x3A + (v - 15)) ∧
    (∃ v, 22 ≤ v ∧ v ≤ 26 ∧ Instr.vS2cC40 26 = .vS2cC40 v ∧ 0x5F = 0x5B + (v - 22)) ∧
    (∃ v, v ≤ 31 ∧ Instr.vS3C40 31 = .vS3C40 v ∧ 0x7F = 0x60 + v) ∧
    (∃ v, 1 ≤ v ∧ v ≤ 26 ∧ Instr.vS3upperText 26 = .vS3upperText v ∧ 0x5A = 0x41 + (v - 1)) ∧
    (∃ v, 27 ≤ v ∧ v ≤ 31 ∧ Instr.vS3highText 27 = .vS3highText v ∧ 0x7B = 0x7B + (v - 27)) :=
  ⟨⟨31, by decide⟩, ⟨14, by decide⟩, ⟨21, by decide⟩, ⟨26, by decide⟩, ⟨31, by decide⟩, ⟨26, by decide⟩,
    ⟨27, by decide⟩⟩
theorem witness_ShiftTwoFunctionsEmitNothing :
    Instr.vS2fnc1Text ∈ [Instr.vS2fnc1C40, .vS2fnc1Text] ∧ Instr.vS2ushText ∈ [Instr.vS2ushC40, .vS2ushText] := by
  decide
theorem witness_ReservedValuesFail :
    32 ≤ 32 ∧ 32 ≤ 39 ∧ Instr.rsvS3Text 32 ∈ [Instr.rsvS1C40 32, .rsvS1Text 32, .rsvS3C40 32, .rsvS3Text 32] ∧
    28 ≤ 29 ∧ 29 ≤ 29 ∧ 31 ≤ 31 ∧ 31 ≤ 39 := by decide
theorem witness_X12ValuesEmitTheirCharacter :
    (∃ v, 4 ≤ v ∧ v ≤ 13 ∧ Instr.xDigit 4 = .xDigit v ∧ 0x30 = 0x30 + (v - 4)) ∧
    (∃ v, 14 ≤ v ∧ v ≤ 39 ∧ Instr.xUpper 39 = .xUpper v ∧ 0x5A = 0x41 + (v - 14)) :=
  ⟨⟨4, by decide⟩, ⟨39, by decide⟩⟩
theorem witness_EdifactTripleEmitsFourCharacters : ∀ v ∈ [0, 30, 32, 63], v ≤ 63 ∧ v ≠ 31 := by decide
/-- The four unlatches of section 2.6, one for each place. -/
theorem witness_EdifactUnlatchEndsTheTriple :
    (∀ v ∈ [1, 2, 3, 31], v ≤ 63) ∧ (3, 3) ∈ [(0, 1), (1, 2), (2, 3), (3, 3)] ∧ [1, 2, 3, 31][3]? = some 31 ∧
    (∀ k, k < 3 → [1, 2, 3, 31][k]? ≠ some 31) ∧ [31, 4, 9, 3][0]? = some 31 ∧ [1, 31, 3, 48][1]? = some 31 ∧
    [1, 2, 31, 0][2]? = some 31 := by decide
theorem witness_EdifactValueRowsRun :
    30 ≤ 30 ∧ 32 ≤ 32 ∧ 32 ≤ 63 ∧ 63 ≤ 63 ∧ (3, 3) ∈ [(0, 1), (1, 2), (2, 3), (3, 3)] := by decide
/-- The whole field of B1, the one-byte length of B2, and the shortest two-byte length (R203). -/
theorem witness_Base256FieldEmitsItsData :
    (atGroup .base256 1 [231, 44, 65, 86, 236]).idx < 5 ∧ [65, 86, 236].length = 5 - (1 + 1) ∧
    Holds (atGroup .base256 1 [231, 44, 65, 86, 236]) 2 [65, 86, 236] ∧ (1 : Byte).toNat = 1 ∧ 1 ≤ 249 ∧
    Holds (atGroup .base256 1 [231, 45, 193]) 2 [193] ∧ 2 + 1 ≤ (atGroup .base256 1 [231, 45, 193]).dw ∧
    250 ≤ (250 : Byte).toNat ∧
    Holds (atGroup .base256 0 (List.replicate 252 7)) 2 (List.replicate 250 7) ∧
    (List.replicate 250 (7 : Byte)).length = 250 * ((250 : Byte).toNat - 249) + (0 : Byte).toNat ∧
    2 + 250 ≤ (atGroup .base256 0 (List.replicate 252 7)).dw := by
  unfold Holds
  decide +kernel
theorem witness_Base256OverrunFails :
    1 ≤ (3 : Byte).toNat ∧ (3 : Byte).toNat ≤ 249 ∧ (atGroup .base256 1 [231, 47, 2, 153]).dw < 1 + 1 + 3 ∧
    250 ≤ (250 : Byte).toNat ∧ ({ atGroup .base256 1 [] with dw := 252 } : State).dw < 1 + 2 + (250 * (250 - 249) + 0) := by
  decide

/-- The invariant at the start of the RS phase. -/
theorem witness_Inv_rs : Inv (atRs 3 5 validStream) := by
  constructor
  case outFilled => exact fun k hk => absurd hk (Nat.not_lt_zero k)
  case roots => exact fun _ => trivial
  case payload => exact fun h => nomatch h
  all_goals decide

/-- The invariant at a group of the payload phase, one byte emitted. -/
theorem witness_Inv_payload :
    Inv { atGroup .ascii 1 [66, 142] with out := [(0, 0x41)], olen := 1 } := by
  constructor
  case outFilled => decide
  case roots => exact fun h => nomatch h
  case payload => exact fun _ => ⟨by decide, by decide, by decide, by decide⟩
  all_goals decide

theorem witness_StepKeepsTheInvariant :
    Inv { atGroup .ascii 1 [66, 142] with out := [(0, 0x41)], olen := 1 } ∧
    after (step { atGroup .ascii 1 [66, 142] with out := [(0, 0x41)], olen := 1 }) State.olen = some 3 :=
  ⟨witness_Inv_payload, by decide⟩
theorem witness_RunningBlockNeverStops :
    Inv (atRs 3 5 validStream) ∧ (atRs 3 5 validStream).busy = true := ⟨witness_Inv_rs, rfl⟩
theorem witness_EveryTransactionEnds :
    Inv (atRs 3 5 validStream) ∧ (atRs 3 5 validStream).phase = .rs ∧ (atRs 3 5 validStream).upc = .rsSynd ∧
    (atRs 3 5 validStream).undisturbed := ⟨witness_Inv_rs, rfl, rfl, fun h => nomatch h⟩
/-- Two states that agree on the empty stream only; seven steps end both transactions. -/
theorem witness_TransactionIsAFunctionOfItsInput :
    SameInput (atIdle 0 0 []) { atGroup .text 7 [] with phase := .done, out := [(0, 9)], olen := 1, cause := .reservedValue } ∧
    (after (exec .start (atIdle 0 0 [])) State.phase) = some .rs ∧
    after (exec .start { atGroup .text 7 [] with phase := .done, out := [(0, 9)], olen := 1, cause := .reservedValue })
      State.phase = some .rs ∧
    (after (Host.Core.run Sys2Proof.core 7 (atRs 0 0 [])) State.phase) = some .done := by
  refine ⟨⟨rfl, rfl, fun i h => absurd h (Nat.not_lt_zero i)⟩, by decide, by decide, by decide⟩

end Sys2Proof.Tests
end

section
/-! PROOFS. The state family: the reset state, the invariant of a run, and that a transaction is a function of its
input. -/

namespace Sys2Proof.Machine

/-! ## The rows of a pair -/

/-- What a C40 or Text value row does: the shared effects of R165 to R174. -/
inductive ValueOp
  | shift (ss : ShiftSet)
  | basic (b : Nat)
  | shifted (b : Nat)
  | fnc1
  | upperShift
  | reserved

/-- The effect of a value row. -/
def ValueOp.run : ValueOp → State → Eff
  | .shift ss => shiftTo ss
  | .basic b => basicChar b
  | .shifted b => shiftedChar b
  | .fnc1 => shiftedFnc1
  | .upperShift => shiftedUsh
  | .reserved => reservedValue

/-- `SSET` alone selects the row of a C40 value (R164). -/
theorem valueC40_eq_run (v : Nat) (ss : ShiftSet) :
    ∃ op : ValueOp, ∀ s, s.sset = ss → valueC40 v s = op.run s := by
  cases ss with
  | set0 =>
    simp +contextual only [valueC40]
    split_ifs
    · exact ⟨.shift .set1, fun _ _ => rfl⟩
    · exact ⟨.shift .set2, fun _ _ => rfl⟩
    · exact ⟨.shift .set3, fun _ _ => rfl⟩
    · exact ⟨.basic 0x20, fun _ _ => rfl⟩
    · exact ⟨.basic (valueDigit v), fun _ _ => rfl⟩
    · exact ⟨.basic (valueUpper v), fun _ _ => rfl⟩
  | set1 =>
    simp +contextual only [valueC40]
    split_ifs
    · exact ⟨.shifted v, fun _ _ => rfl⟩
    · exact ⟨.reserved, fun _ _ => rfl⟩
  | set2 =>
    simp +contextual only [valueC40]
    split_ifs
    · exact ⟨.shifted (shift2CharA v), fun _ _ => rfl⟩
    · exact ⟨.shifted (shift2CharB v), fun _ _ => rfl⟩
    · exact ⟨.shifted (shift2CharC v), fun _ _ => rfl⟩
    · exact ⟨.fnc1, fun _ _ => rfl⟩
    · exact ⟨.reserved, fun _ _ => rfl⟩
    · exact ⟨.upperShift, fun _ _ => rfl⟩
    · exact ⟨.reserved, fun _ _ => rfl⟩
  | set3 =>
    simp +contextual only [valueC40]
    split_ifs
    · exact ⟨.shifted (shift3C40 v), fun _ _ => rfl⟩
    · exact ⟨.reserved, fun _ _ => rfl⟩

/-- Text shares the shift sets 1 and 2 of C40 (R169 to R172). -/
theorem valueText_eq_valueC40 (v : Nat) {s : State} (h : s.sset = .set1 ∨ s.sset = .set2) :
    valueText v s = valueC40 v s := by
  rcases h with h | h <;> simp only [valueText, valueC40, h] <;> rfl

/-- `SSET` alone selects the row of a Text value (R164). -/
theorem valueText_eq_run (v : Nat) (ss : ShiftSet) :
    ∃ op : ValueOp, ∀ s, s.sset = ss → valueText v s = op.run s := by
  cases ss with
  | set0 =>
    simp +contextual only [valueText]
    split_ifs
    · exact ⟨.shift .set1, fun _ _ => rfl⟩
    · exact ⟨.shift .set2, fun _ _ => rfl⟩
    · exact ⟨.shift .set3, fun _ _ => rfl⟩
    · exact ⟨.basic 0x20, fun _ _ => rfl⟩
    · exact ⟨.basic (valueDigit v), fun _ _ => rfl⟩
    · exact ⟨.basic (valueLower v), fun _ _ => rfl⟩
  | set1 => exact (valueC40_eq_run v .set1).imp fun op h s hs =>
      (valueText_eq_valueC40 v (.inl hs)).trans (h s hs)
  | set2 => exact (valueC40_eq_run v .set2).imp fun op h s hs =>
      (valueText_eq_valueC40 v (.inr hs)).trans (h s hs)
  | set3 =>
    simp +contextual only [valueText]
    split_ifs
    · exact ⟨.shifted 0x60, fun _ _ => rfl⟩
    · exact ⟨.shifted (shift3TextUpper v), fun _ _ => rfl⟩
    · exact ⟨.shifted (shift3TextHigh v), fun _ _ => rfl⟩
    · exact ⟨.reserved, fun _ _ => rfl⟩

/-- Every X12 value emits one character (R176). -/
theorem valueX12_eq_x12Char (v : Nat) : ∃ b, ∀ s, valueX12 v s = x12Char b s := by
  simp only [valueX12]
  split_ifs
  · exact ⟨0x0D, fun _ => rfl⟩
  · exact ⟨0x2A, fun _ => rfl⟩
  · exact ⟨0x3E, fun _ => rfl⟩
  · exact ⟨0x20, fun _ => rfl⟩
  · exact ⟨valueDigit v, fun _ => rfl⟩
  · exact ⟨valueUpper v, fun _ => rfl⟩

/-! ## The decoded group -/

/-- The row that the codewords `w :: rest` left at `idx` select in mode `m` (R60). -/
def groupRow (m : Mode) (idx : Nat) (w : Byte) (rest : List Byte) : Instr :=
  match m with
  | .ascii => decodeAscii idx w rest.head?
  | .c40 => (decodePairForm w rest.head?).c40
  | .text => (decodePairForm w rest.head?).text
  | .x12 => (decodePairForm w rest.head?).x12
  | .edifact => decodeEdifact w rest
  | .base256 => decodeBase256 idx w rest.head?

/-- A decoded group is the row of the codewords left, of which at least those it reads are left. -/
theorem decodeGroup_ok {m : Mode} {idx left : Nat} {ws : List Byte} {i : Instr}
    (h : decodeGroup m idx left ws = .ok i) : ∃ w rest, rest.length < left ∧ i = groupRow m idx w rest := by
  unfold decodeGroup at h
  split at h
  · cases h
  · split at h
    · cases h
    · cases hw : ws.take left with
      | nil => simp [hw] at h
      | cons w rest =>
        have hlen : (w :: rest).length ≤ left := hw ▸ List.length_take_le left ws
        refine ⟨w, rest, hlen, ?_⟩
        cases m <;> simpa [hw, groupRow, eq_comm] using h

/-- What the fetch at a group answers. -/
theorem fetchGroup_ok {s : State} {i : Instr} (h : fetchGroup s = .ok i) :
    ∃ w rest, rest.length < s.dw - s.idx ∧ i = groupRow s.mode s.idx w rest := by
  unfold fetchGroup at h
  split at h
  · cases h
  · split at h
    · cases h
    · cases h
      exact decodeGroup_ok ‹_›

/-! ## What the payload operations do -/

/-- From `s` to `t` operations of the payload phase ran: at most `k` bytes were appended, and nothing but `OUT`, the
payload registers and the sequencer position was touched. -/
structure PayloadRun (k : Nat) (s t : State) : Prop where
  appends : ∃ bs : List Byte, bs.length ≤ k ∧ Appends s t bs
  outForm : s.out.wf = true → t.out.wf = true
  frame : t = { s with
    out := t.out, olen := t.olen, idx := t.idx, mode := t.mode, ush := t.ush, sset := t.sset,
    macroReg := t.macroReg, upc := t.upc }

namespace PayloadRun

variable {j k : Nat} {s t u : State}

theorem dw_eq (h : PayloadRun k s t) : t.dw = s.dw := (congrArg State.dw h.frame).trans rfl
theorem phase_eq (h : PayloadRun k s t) : t.phase = s.phase := (congrArg State.phase h.frame).trans rfl
theorem cw_eq (h : PayloadRun k s t) : t.cw = s.cw := (congrArg State.cw h.frame).trans rfl
theorem busy_eq (h : PayloadRun k s t) : t.busy = s.busy := (congrArg State.busy h.frame).trans rfl
theorem loaded_eq (h : PayloadRun k s t) : t.loaded = s.loaded := (congrArg State.loaded h.frame).trans rfl
theorem rsstat_eq (h : PayloadRun k s t) : t.rsstat = s.rsstat := (congrArg State.rsstat h.frame).trans rfl
theorem cause_eq (h : PayloadRun k s t) : t.cause = s.cause := (congrArg State.cause h.frame).trans rfl
theorem fidx_eq (h : PayloadRun k s t) : t.fidx = s.fidx := (congrArg State.fidx h.frame).trans rfl

theorem olen_le (h : PayloadRun k s t) : t.olen ≤ s.olen + k := by
  obtain ⟨bs, hbs, hlen, -, -⟩ := h.appends
  omega

/-- The cells below `OLEN` stay filled. -/
theorem outFilled (h : PayloadRun k s t) (hs : ∀ a, a < s.olen → (s.out.read a).isSome = true) :
    ∀ a, a < t.olen → (t.out.read a).isSome = true := by
  obtain ⟨bs, -, hlen, hnew, hold⟩ := h.appends
  intro a ha
  by_cases hlt : a < s.olen
  · rw [hold a (.inl hlt)]
    exact hs a hlt
  · obtain ⟨d, rfl⟩ := Nat.exists_eq_add_of_le (Nat.le_of_not_lt hlt)
    have hd : d < bs.length := by omega
    simp [hnew d hd, hd]

theorem refl (s : State) : PayloadRun 0 s s :=
  ⟨⟨[], Nat.le_refl 0, .of_eq rfl rfl⟩, id, rfl⟩

theorem mono (h : PayloadRun j s t) (hjk : j ≤ k) : PayloadRun k s t := by
  obtain ⟨bs, hbs, happends⟩ := h.appends
  exact ⟨⟨bs, hbs.trans hjk, happends⟩, h.outForm, h.frame⟩

theorem trans (h₁ : PayloadRun j s t) (h₂ : PayloadRun k t u) : PayloadRun (j + k) s u where
  appends := by
    obtain ⟨bs, hbs, h₁⟩ := h₁.appends
    obtain ⟨cs, hcs, h₂⟩ := h₂.appends
    exact ⟨bs ++ cs, by rw [List.length_append]; omega, h₁.append h₂⟩
  outForm hs := h₂.outForm (h₁.outForm hs)
  frame := by rw [h₂.frame, h₁.frame]

/-- An update of the payload registers and the sequencer position appends nothing. -/
theorem update (h : PayloadRun k s t) (hu : u = { t with
    idx := u.idx, mode := u.mode, ush := u.ush, sset := u.sset, macroReg := u.macroReg, upc := u.upc }) :
    PayloadRun k s u := by
  have hout : u.out = t.out := (congrArg State.out hu).trans rfl
  have holen : u.olen = t.olen := (congrArg State.olen hu).trans rfl
  refine h.trans (k := 0) ⟨⟨[], Nat.le_refl 0, .of_eq hout holen⟩, fun ht => hout ▸ ht, ?_⟩
  rw [hout, holen]
  exact hu

theorem emitAll (bs : List Byte) (s : State) : PayloadRun bs.length s (emitAll bs s) :=
  ⟨⟨bs, Nat.le_refl _, emitAll_appends bs s⟩, emitAll_keeps_wf, by rw [emitAll_frame]⟩

theorem emit (b : Byte) (s : State) : PayloadRun 1 s (emit b s) := emitAll [b] s

theorem emitUs (b : Nat) (s : State) : PayloadRun 1 s (emitUs b s) :=
  ⟨⟨[usByte s b], Nat.le_refl 1, emitUs_appends b s⟩, fun h => by simpa using Mem.wf_write _ _ h,
    by rw [emitUs_frame]⟩

end PayloadRun

/-! ## The groups by mode -/

/-- What a group form of C40, Text or X12 does, `value` being the mode's rows of R164. -/
def runPairForm (value : Nat → State → Eff) (f : PairForm) (s : State) : Outcome :=
  match f with
  | .short => pairShort s
  | .unl => unlatch s
  | .pair0 | .pairHi _ => reservedPair s
  | .tri a b c => triple value a b c s

theorem exec_c40 (f : PairForm) (s : State) : exec f.c40 s = runPairForm valueC40 f s := by cases f <;> rfl
theorem exec_text (f : PairForm) (s : State) : exec f.text s = runPairForm valueText f s := by cases f <;> rfl
theorem exec_x12 (f : PairForm) (s : State) : exec f.x12 s = runPairForm valueX12 f s := by cases f <;> rfl

end Sys2Proof.Machine
end

section
namespace Sys2Proof.Machine

/-! ## The invariant through the values of a pair -/

theorem flagsOk_of_shifted {s : State} (h : s.mode = .c40 ∨ s.mode = .text) : s.flagsOk = true := by
  rcases h with h | h <;> simp [State.flagsOk, h]

/-- `SSET` is 0 outside C40 and Text. -/
theorem sset_of_flagsOk {s : State} (h : s.flagsOk = true) (hm : s.mode ≠ .c40 ∧ s.mode ≠ .text) :
    s.sset = .set0 := by
  obtain ⟨hc, ht⟩ := hm
  cases hmode : s.mode <;> simp_all [State.flagsOk]

/-- From `s` to `t` values of a pair ran: `IDX`, `MODE` and `MACRO` stay, and the flags stay legal. -/
structure ValueRun (k : Nat) (s t : State) : Prop extends PayloadRun k s t where
  idx_eq : t.idx = s.idx
  mode_eq : t.mode = s.mode
  tag_eq : t.macroReg = s.macroReg
  flags : s.flagsOk = true → t.flagsOk = true

theorem ValueRun.refl (s : State) : ValueRun 0 s s := ⟨.refl s, rfl, rfl, rfl, id⟩

theorem ValueRun.trans {j k : Nat} {s t u : State} (h₁ : ValueRun j s t) (h₂ : ValueRun k t u) :
    ValueRun (j + k) s u where
  toPayloadRun := h₁.toPayloadRun.trans h₂.toPayloadRun
  idx_eq := h₂.idx_eq.trans h₁.idx_eq
  mode_eq := h₂.mode_eq.trans h₁.mode_eq
  tag_eq := h₂.tag_eq.trans h₁.tag_eq
  flags hs := h₂.flags (h₁.flags hs)

/-- How values that emit at most `k` bytes end. -/
def ValueEnds (k : Nat) (s : State) : Eff → Prop
  | .done t => ValueRun k s t
  | .raised c t => c ≠ .none ∧ ValueRun k s t

theorem valueOp_ends (op : ValueOp) {s : State} (hm : s.mode = .c40 ∨ s.mode = .text) :
    ValueEnds 1 s (op.run s) := by
  have hflags {t : State} (ht : t.mode = s.mode) : t.flagsOk = true := flagsOk_of_shifted (by rwa [ht])
  have hsilent : PayloadRun 1 s s := (PayloadRun.refl s).mono (Nat.zero_le 1)
  cases op with
  | shift ss => exact ⟨hsilent.update rfl, rfl, rfl, rfl, fun _ => hflags rfl⟩
  | basic b => exact ⟨.emitUs b s, by simp, by simp, by simp, fun _ => hflags (by simp)⟩
  | shifted b => exact ⟨(PayloadRun.emitUs b s).update rfl, by simp, by simp, by simp, fun _ => hflags (by simp)⟩
  | fnc1 => exact ⟨hsilent.update rfl, rfl, rfl, rfl, fun _ => hflags rfl⟩
  | upperShift => exact ⟨hsilent.update rfl, rfl, rfl, rfl, fun _ => hflags rfl⟩
  | reserved => exact ⟨nofun, hsilent, rfl, rfl, rfl, id⟩

theorem valueC40_ends (v : Nat) {s : State} (hm : s.mode = .c40) : ValueEnds 1 s (valueC40 v s) := by
  obtain ⟨op, h⟩ := valueC40_eq_run v s.sset
  rw [h s rfl]
  exact valueOp_ends op (.inl hm)

theorem valueText_ends (v : Nat) {s : State} (hm : s.mode = .text) : ValueEnds 1 s (valueText v s) := by
  obtain ⟨op, h⟩ := valueText_eq_run v s.sset
  rw [h s rfl]
  exact valueOp_ends op (.inr hm)

theorem valueX12_ends (v : Nat) (s : State) : ValueEnds 1 s (valueX12 v s) := by
  obtain ⟨b, h⟩ := valueX12_eq_x12Char v
  rw [h s]
  exact ⟨.emit (byte b) s, rfl, rfl, rfl, id⟩

/-- Values that each emit at most one byte emit at most one each. -/
theorem runValues_ends {value : Nat → State → Eff} {m : Mode}
    (hv : ∀ v s, s.mode = m → ValueEnds 1 s (value v s)) (vs : List Nat) {s : State} (hm : s.mode = m) :
    ∃ k, k ≤ vs.length ∧ ValueEnds k s (runValues value vs s) := by
  induction vs generalizing s with
  | nil => exact ⟨0, Nat.le_refl 0, .refl s⟩
  | cons v vs ih =>
    have hone := hv v s hm
    cases he : value v s with
    | raised c t =>
      rw [he] at hone
      rw [runValues_cons, he]
      exact ⟨1, by simp, hone⟩
    | done t =>
      rw [he] at hone
      have hrun : ValueRun 1 s t := hone
      obtain ⟨k, hk, hrest⟩ := ih (hrun.mode_eq.trans hm)
      rw [runValues_cons, he]
      refine ⟨1 + k, by simp; omega, ?_⟩
      show ValueEnds (1 + k) s (runValues value vs t)
      cases hr : runValues value vs t with
      | done u =>
        rw [hr] at hrest
        exact hrun.trans hrest
      | raised c u =>
        rw [hr] at hrest
        exact ⟨hrest.1, hrun.trans hrest.2⟩

/-! ## The invariant through a group -/

/-- What the invariant says of the payload registers where a group is executed. -/
structure GroupReady (s : State) : Prop where
  left : s.idx < s.dw
  flags : s.flagsOk = true
  tagBehind : s.macroReg ≠ .zero → 1 ≤ s.idx
  bound : s.olen ≤ emitLimit s.macroReg s.idx

/-- How a group ends: the loop goes on with legal registers, INVALID_PAYLOAD is raised, or a read of `CW` stops it. -/
inductive GroupEnds (s : State) : Outcome → Prop
  | again {k : Nat} {t : State} (run : PayloadRun k s t) (upc : t.upc = .plLoop) (ok : t.payloadOk) :
      GroupEnds s (.next t)
  | raised {k : Nat} {c : Cause} {t : State} (run : PayloadRun k s t) (hc : c ≠ .none) :
      GroupEnds s (.next (raiseInvalidPayload c t))
  | stopped (f : Fault) : GroupEnds s (.fault f)

/-- A group may emit two bytes for each codeword it moves past (R48). -/
theorem GroupReady.again {s t : State} {k : Nat} (h : GroupReady s) (run : PayloadRun k s t)
    (htag : t.macroReg = s.macroReg) (hflags : t.flagsOk = true) (hk : 2 * s.idx + k ≤ 2 * t.idx)
    (hle : t.idx ≤ s.dw) : GroupEnds s (.next (endGroup t)) := by
  refine .again (run.update rfl) rfl ⟨hle.trans_eq run.dw_eq.symm, hflags, fun ht => ?_, ?_⟩
  · have := h.tagBehind (htag ▸ ht)
    show 1 ≤ t.idx
    omega
  · have hbound := h.bound
    have holen := run.olen_le
    show t.olen ≤ emitLimit t.macroReg t.idx
    rw [htag]
    unfold emitLimit at hbound ⊢
    split_ifs at hbound ⊢ <;> omega

/-- A group of one codeword. -/
theorem GroupReady.one {s t : State} {k : Nat} (h : GroupReady s) (run : PayloadRun k s t) (hk : k ≤ 2)
    (hidx : t.idx = s.idx) (htag : t.macroReg = s.macroReg) (hflags : t.flagsOk = true) :
    GroupEnds s (.next (endGroup (advance 1 t))) := by
  have hleft := h.left
  exact h.again (run.update rfl) htag hflags (by simp [hidx]; omega) (by simp [hidx]; omega)

/-- The header of R132 stands at index 0, before anything is emitted. -/
theorem GroupReady.header {s : State} (h : GroupReady s) (hm : s.mode = .ascii) (hidx : s.idx = 0) (m : MacroTag)
    (hne : m ≠ .zero) (digit : Byte) : GroupEnds s (.next (macroPrefix m digit s)) := by
  have hset : s.sset = .set0 := sset_of_flagsOk h.flags (by simp [hm])
  have hzero : s.macroReg = .zero := by
    by_contra hne
    have := h.tagBehind hne
    omega
  have hbound : s.olen = 0 := by simpa [emitLimit, hzero, hidx] using h.bound
  have hleft := h.left
  refine .again ((PayloadRun.emitAll (macroHeader digit) s).update rfl) rfl ⟨?_, ?_, fun _ => Nat.le_refl 1, ?_⟩
  · simp [macroPrefix, endGroup]
    omega
  · simp [macroPrefix, endGroup, State.flagsOk, hm, hset]
  · simp [macroPrefix, endGroup, macroHeader, emitLimit, hne, hbound]

theorem decodeAscii_ends {s : State} (h : GroupReady s) (hm : s.mode = .ascii) (w : Byte) (next : Option Byte) :
    GroupEnds s (exec (decodeAscii s.idx w next) s) := by
  have hset : s.sset = .set0 := sset_of_flagsOk h.flags (by simp [hm])
  have hleft := h.left
  have hflags {t : State} (hmode : t.mode = s.mode) (hsset : t.sset = s.sset) : t.flagsOk = true := by
    simp [State.flagsOk, hmode, hsset, hm, hset]
  have hreserved : GroupEnds s (reservedCodeword s) := .raised (.refl s) nofun
  fun_cases decodeAscii
  · exact hreserved
  · exact h.one (.emitUs _ s) (by omega) (by simp) (by simp) (hflags (by simp) (by simp))
  · exact h.again ((PayloadRun.refl s).update rfl) rfl (hflags rfl rfl) (by simp; omega) (Nat.le_refl _)
  · exact h.one (.emitAll _ s) (by simp) (by simp) (by simp) (hflags (by simp) (by simp))
  · exact h.one ((PayloadRun.refl s).update rfl) (by omega) rfl rfl rfl
  · exact h.one ((PayloadRun.refl s).update rfl) (by omega) rfl rfl (by simp [State.flagsOk, latch, hset])
  · exact h.one (.refl s) (by omega) rfl rfl h.flags
  · exact hreserved
  · exact h.one ((PayloadRun.refl s).update rfl) (by omega) rfl rfl (hflags rfl rfl)
  · exact h.header hm ‹_› .five nofun 0x35
  · exact hreserved
  · exact h.header hm ‹_› .six nofun 0x36
  · exact hreserved
  · exact h.one ((PayloadRun.refl s).update rfl) (by omega) rfl rfl (by simp [State.flagsOk, latch, hset])
  · exact h.one ((PayloadRun.refl s).update rfl) (by omega) rfl rfl rfl
  · exact h.one ((PayloadRun.refl s).update rfl) (by omega) rfl rfl (by simp [State.flagsOk, latch, hset])
  · exact h.again ((PayloadRun.refl s).update rfl) rfl (hflags rfl rfl) (by simp; omega) (Nat.min_le_right _ _)
  · exact hreserved

theorem pairForm_ends {s : State} (h : GroupReady s) {value : Nat → State → Eff}
    (hv : ∀ v t, t.mode = s.mode → ValueEnds 1 t (value v t)) (w : Byte) (rest : List Byte)
    (hrest : rest.length < s.dw - s.idx) :
    GroupEnds s (runPairForm value (decodePairForm w rest.head?) s) := by
  have hleft := h.left
  have hreserved : GroupEnds s (reservedPair s) := .raised (.refl s) nofun
  cases rest with
  | nil => exact h.again ((PayloadRun.refl s).update rfl) rfl rfl (Nat.le_refl _) hleft.le
  | cons w₂ rest =>
    have htwo : s.idx + 2 ≤ s.dw := by simp at hrest; omega
    simp only [List.head?_cons, decodePairForm]
    split_ifs
    · exact h.one ((PayloadRun.refl s).update rfl) (by omega) rfl rfl rfl
    · exact hreserved
    · obtain ⟨k, hk, hends⟩ :=
        runValues_ends hv [pairA (pairNum w w₂), pairB (pairNum w w₂), pairC (pairNum w w₂)] rfl
      simp only [List.length_cons, List.length_nil] at hk
      rcases triple_cases value (pairA (pairNum w w₂)) (pairB (pairNum w w₂)) (pairC (pairNum w w₂)) s with
        ⟨t, ht, hrun⟩ | ⟨c, t, ht, hrun⟩
      · rw [ht] at hends
        have hvals : ValueRun k s t := hends
        have hidx := hvals.idx_eq
        rw [runPairForm, hrun]
        exact h.again (hvals.update rfl) hvals.tag_eq (hvals.flags h.flags) (by simp; omega) (by simp; omega)
      · rw [ht] at hends
        obtain ⟨hc, hvals⟩ : c ≠ .none ∧ ValueRun k s t := hends
        rw [runPairForm, hrun]
        exact .raised hvals.toPayloadRun hc
    · exact hreserved

/-- How the values of a triple from number `j` on end: with the `j` before them they emit at most two bytes for each
codeword moved past (R194). -/
structure TripleRun (j : Nat) (s t : State) : Prop where
  run : ∃ k r, PayloadRun k s t ∧ t.idx = s.idx + r ∧ j + k ≤ 2 * r ∧ r ≤ 3
  tag_eq : t.macroReg = s.macroReg
  flags : t.flagsOk = true

theorem TripleRun.of_emit {j : Nat} {b : Byte} {s t : State} (h : TripleRun (j + 1) (emit b s) t) :
    TripleRun j s t := by
  obtain ⟨k, r, hrun, hidx, hk, hr⟩ := h.run
  exact ⟨⟨1 + k, r, (PayloadRun.emit b s).trans hrun, hidx, by omega, hr⟩, h.tag_eq, h.flags⟩

theorem runEdf_ends (vs : List Nat) (j : Nat) {s : State} (hj : j + vs.length ≤ 4) (hm : s.mode = .edifact)
    (hf : s.flagsOk = true) : TripleRun j s (runEdf j vs s) := by
  induction vs generalizing j s with
  | nil => exact ⟨⟨0, 3, (PayloadRun.refl s).update rfl, rfl, by simp at hj; omega, Nat.le_refl 3⟩, rfl, hf⟩
  | cons v vs ih =>
    have hj' : j + 1 + vs.length ≤ 4 := by simp at hj; omega
    unfold runEdf
    split_ifs
    · exact (ih (s := edfLowChar v s) (j + 1) hj' hm hf).of_emit
    · have hset : s.sset = .set0 := sset_of_flagsOk hf (by simp [hm])
      have hle : j ≤ 3 := by omega
      have hresume : j ≤ 2 * edfResume j ∧ edfResume j ≤ 3 := by interval_cases j <;> decide
      exact ⟨⟨0, edfResume j, (PayloadRun.refl s).update rfl, rfl, hresume.1, hresume.2⟩, rfl,
        by simp [edfUnlatch, advance, endRun, State.flagsOk, hset]⟩
    · exact (ih (s := edfHighChar v s) (j + 1) hj' hm hf).of_emit

theorem decodeEdifact_ends {s : State} (h : GroupReady s) (hm : s.mode = .edifact) (w : Byte) (rest : List Byte)
    (hrest : rest.length < s.dw - s.idx) : GroupEnds s (exec (decodeEdifact w rest) s) := by
  have hset : s.sset = .set0 := sset_of_flagsOk h.flags (by simp [hm])
  have hshort : GroupEnds s (execEdfShort s) :=
    h.again ((PayloadRun.refl s).update rfl) rfl (by simp [endRun, State.flagsOk, hset]) (Nat.le_refl _) h.left.le
  match rest with
  | [] => exact hshort
  | [_] => exact hshort
  | w₂ :: w₃ :: rest =>
    have htriple := runEdf_ends [edfV0 w, edfV1 w w₂, edfV2 w₂ w₃, edfV3 w₃] 0 (Nat.le_refl 4) hm h.flags
    obtain ⟨k, r, hrun, hidx, hk, hr⟩ := htriple.run
    simp only [List.length_cons] at hrest
    exact h.again hrun htriple.tag_eq htriple.flags (by omega) (by omega)

theorem base256Field_ends {s : State} (h : GroupReady s) (hm : s.mode = .base256) {start : Nat}
    (hstart : s.idx < start) (len : Nat) : GroupEnds s (base256Field start len s) := by
  have hset : s.sset = .set0 := sset_of_flagsOk h.flags (by simp [hm])
  rcases base256Field_cases start len s with ⟨-, hr⟩ | ⟨hle, ws, hws, hr⟩ | ⟨-, f, -, hr⟩
  · exact hr ▸ .raised (.refl s) nofun
  · have hlen : ws.length = len := (readRun_ok.1 hws).1
    rw [hr]
    refine h.again ((PayloadRun.emitAll (unrandAll start ws) s).update rfl) ?_ ?_ ?_ ?_
    · simp [endRun]
    · simp [endRun, State.flagsOk, hset]
    · simp only [endRun_idx, unrandAll_length, hlen]
      omega
    · simpa using hle
  · exact hr ▸ .stopped f

theorem decodeBase256_ends {s : State} (h : GroupReady s) (hm : s.mode = .base256) (w : Byte) (next : Option Byte) :
    GroupEnds s (exec (decodeBase256 s.idx w next) s) := by
  unfold decodeBase256
  split_ifs
  · exact base256Field_ends h hm (by omega) _
  · exact base256Field_ends h hm (by omega) _
  · cases next with
    | none => exact .raised (.refl s) nofun
    | some d => exact base256Field_ends h hm (by omega) _

/-- Every group that the fetch answers ends in one of the three ways. -/
theorem groupRow_ends {s : State} (h : GroupReady s) (w : Byte) (rest : List Byte)
    (hrest : rest.length < s.dw - s.idx) : GroupEnds s (exec (groupRow s.mode s.idx w rest) s) := by
  cases hm : s.mode with
  | ascii => exact decodeAscii_ends h hm w rest.head?
  | c40 =>
    rw [groupRow, exec_c40]
    exact pairForm_ends h (fun v t ht => valueC40_ends v (ht.trans hm)) w rest hrest
  | text =>
    rw [groupRow, exec_text]
    exact pairForm_ends h (fun v t ht => valueText_ends v (ht.trans hm)) w rest hrest
  | x12 =>
    rw [groupRow, exec_x12]
    exact pairForm_ends h (fun v t _ => valueX12_ends v t) w rest hrest
  | edifact => exact decodeEdifact_ends h hm w rest hrest
  | base256 => exact decodeBase256_ends h hm w rest.head?

end Sys2Proof.Machine
end

section
namespace Sys2Proof.Machine

/-! ## The invariant through a micro-operation -/

/-- An update of the registers of the RS phase keeps the invariant. -/
theorem Inv.of_rsUpdate {s t : State} (hI : Inv s) (hp : s.phase = .rs) (ht : t = { s with
    synd := t.synd, sig := t.sig, nroot := t.nroot, loc := t.loc, y := t.y, rsstat := t.rsstat, upc := t.upc })
    (hat : t.atPhase = true) (hroots : t.rootsOk) : Inv t where
  cwForm := by rw [ht]; exact hI.cwForm
  outForm := by rw [ht]; exact hI.outForm
  outFilled := by rw [ht]; exact hI.outFilled
  atPhase := hat
  loaded := by rw [ht]; exact hI.loaded
  noFault := by rw [ht]; exact hI.noFault
  rsSilent := by rw [ht]; exact hI.rsSilent
  roots _ := hroots
  passed := by rw [ht]; simp [hp]
  payload := by rw [ht]; simp [hp]
  results := by rw [ht]; simp [hp]

/-- Operations of the payload phase keep the invariant where they leave the payload registers legal. -/
theorem Inv.of_payloadRun {s t : State} {k : Nat} (hI : Inv s) (hp : s.phase = .payload) (run : PayloadRun k s t)
    (hat : t.atPhase = true) (hok : t.payloadOk) : Inv t where
  cwForm := run.cw_eq ▸ hI.cwForm
  outForm := run.outForm hI.outForm
  outFilled := run.outFilled hI.outFilled
  atPhase := hat
  loaded hb := run.loaded_eq.trans (hI.loaded (run.busy_eq ▸ hb))
  noFault hb := by
    rw [run.cause_eq, run.fidx_eq]
    exact hI.noFault (run.busy_eq ▸ hb)
  rsSilent := by simp [run.phase_eq, hp]
  roots := by simp [run.phase_eq, hp]
  passed _ := run.rsstat_eq ▸ hI.passed hp
  payload _ := hok
  results := by simp [run.phase_eq, hp]

/-- A raised INVALID_PAYLOAD meets the table of R238. -/
theorem Inv.of_raised {s t : State} {k : Nat} {c : Cause} (hI : Inv s) (hp : s.phase = .payload)
    (run : PayloadRun k s t) (hc : c ≠ .none) : Inv (raiseInvalidPayload c t) where
  cwForm := run.cw_eq ▸ hI.cwForm
  outForm := rfl
  outFilled a ha := absurd ha (Nat.not_lt_zero a)
  atPhase := rfl
  loaded := nofun
  noFault := nofun
  rsSilent := nofun
  roots := nofun
  passed := nofun
  payload := nofun
  results _ := by
    have hstat : t.rsstat ≠ .unrecoverable := run.rsstat_eq ▸ hI.passed hp
    simp [raiseInvalidPayload, State.resultOk, hstat, hc]

/-- The end of a transaction keeps the invariant where the result registers are as the table of R238 says. -/
theorem Inv.of_done {s t : State} (hI : Inv s) (ht : t = { s with
    result := t.result, phase := .done }) (hres : t.resultOk = true) : Inv t where
  cwForm := by rw [ht]; exact hI.cwForm
  outForm := by rw [ht]; exact hI.outForm
  outFilled := by rw [ht]; exact hI.outFilled
  atPhase := by rw [ht]; rfl
  loaded := by rw [ht]; nofun
  noFault := by rw [ht]; nofun
  rsSilent := by rw [ht]; nofun
  roots := by rw [ht]; nofun
  passed := by rw [ht]; nofun
  payload := by rw [ht]; nofun
  results _ := hres

theorem busy_of_rs {s : State} (hp : s.phase = .rs) : s.busy = true := by simp [State.busy, hp]

theorem busy_of_payload {s : State} (hp : s.phase = .payload) : s.busy = true := by simp [State.busy, hp]

/-- The root registers from RS.COUNT to RS.CORR (R13, R121). -/
theorem Inv.rootsAt {s : State} (hI : Inv s) (hp : s.phase = .rs)
    (hu : s.upc = .rsCount ∨ s.upc = .rsMag ∨ s.upc = .rsCorr) :
    s.nroot = s.loc.length ∧ s.loc.Pairwise (· < ·) ∧ ∀ p ∈ s.loc, p < s.n := by
  have h := hI.roots hp
  rcases hu with hu | hu | hu <;> simpa only [State.rootsOk, hu] using h

/-- The payload registers where the loop tests its condition or the phase ends. -/
theorem Inv.loopAt {s : State} (hI : Inv s) (hp : s.phase = .payload) (hu : s.upc = .plLoop ∨ s.upc = .plEnd) :
    s.idx ≤ s.dw ∧ s.flagsOk = true ∧ (s.macroReg ≠ .zero → 1 ≤ s.idx) ∧ s.olen ≤ emitLimit s.macroReg s.idx := by
  have h := hI.payload hp
  rcases hu with hu | hu <;> simpa only [State.payloadOk, hu] using h

/-- The payload registers where a group is to be executed. -/
theorem Inv.groupReady {s : State} (hI : Inv s) (hp : s.phase = .payload)
    (hu : s.upc = .plDispatch ∨ s.upc = .group) : GroupReady s := by
  have h := hI.payload hp
  obtain ⟨hleft, hflags, htag, hbound⟩ : s.idx < s.dw ∧ s.flagsOk = true ∧ (s.macroReg ≠ .zero → 1 ≤ s.idx) ∧
      s.olen ≤ emitLimit s.macroReg s.idx := by
    rcases hu with hu | hu <;> simpa only [State.payloadOk, hu] using h
  exact ⟨hleft, hflags, htag, hbound⟩

theorem execRsSynd_keeps_inv {s t : State} (hI : Inv s) (hp : s.phase = .rs) (h : execRsSynd s = .next t) : Inv t := by
  unfold execRsSynd at h
  split at h
  · cases h
  · cases h
    exact hI.of_rsUpdate hp rfl (by simp [goto, State.atPhase, hp]) trivial

theorem execRsZero_keeps_inv {s t : State} (hI : Inv s) (hp : s.phase = .rs) (h : execRsZero s = .next t) : Inv t := by
  unfold execRsZero at h
  split at h <;> cases h <;>
  exact hI.of_rsUpdate hp rfl (by simp [goto, State.atPhase, hp]) trivial

theorem execRsLoc_keeps_inv {s t : State} (hI : Inv s) (hp : s.phase = .rs) (h : execRsLoc s = .next t) : Inv t := by
  unfold execRsLoc at h
  split at h <;> cases h
  · exact hI.of_rsUpdate hp rfl (by simp [raiseUnrecoverable, State.atPhase, hp]) trivial
  · exact hI.of_rsUpdate hp rfl (by simp [goto, State.atPhase, hp]) trivial

/-- The root search answers positions below `n`, ascending (R121). -/
theorem locatorRoots_sorted (sig : List Byte) (t n : Nat) :
    (locatorRoots sig t n).Pairwise (· < ·) ∧ ∀ p ∈ locatorRoots sig t n, p < n :=
  ⟨List.pairwise_lt_range.filter _, fun _ hp => List.mem_range.1 (List.mem_of_mem_filter hp)⟩

theorem execRsChien_keeps_inv {s t : State} (hI : Inv s) (hp : s.phase = .rs) (h : execRsChien s = .next t) :
    Inv t := by
  cases h
  exact hI.of_rsUpdate hp rfl (by simp [goto, State.atPhase, hp]) ⟨rfl, locatorRoots_sorted s.sig s.t s.n⟩

theorem execRsCount_keeps_inv {s t : State} (hI : Inv s) (hp : s.phase = .rs) (hu : s.upc = .rsCount)
    (h : execRsCount s = .next t) : Inv t := by
  unfold execRsCount at h
  split at h <;> cases h
  · exact hI.of_rsUpdate hp rfl (by simp [raiseUnrecoverable, State.atPhase, hp]) trivial
  · exact hI.of_rsUpdate hp rfl (by simp [goto, State.atPhase, hp]) (hI.rootsAt hp (.inl hu))

theorem execRsMag_keeps_inv {s t : State} (hI : Inv s) (hp : s.phase = .rs) (hu : s.upc = .rsMag)
    (h : execRsMag s = .next t) : Inv t := by
  unfold execRsMag at h
  split at h <;> cases h
  · exact hI.of_rsUpdate hp rfl (by simp [raiseUnrecoverable, State.atPhase, hp]) trivial
  · exact hI.of_rsUpdate hp rfl (by simp [goto, State.atPhase, hp]) (hI.rootsAt hp (.inr (.inl hu)))

/-- A correction takes no value away. -/
theorem correctAll_keeps_values {ks : List Nat} {s t : State} (h : correctAll ks s = .ok t) {a : Nat}
    (ha : (s.cw.read a).isSome = true) : (t.cw.read a).isSome = true := by
  induction ks generalizing s with
  | nil => cases h; exact ha
  | cons k ks ih =>
    obtain ⟨-, b, -, hrest⟩ := correctAll_cons h
    exact ih hrest (Mem.isSome_read_write _ _ ha)

/-- A correction keeps the invariant: the cells of `CW` keep having values (R236). -/
theorem correctAll_keeps_inv {ks : List Nat} {s t : State} (hI : Inv s) (hp : s.phase = .rs)
    (h : correctAll ks s = .ok t) : Inv t := by
  have hframe := correctAll_frame h
  obtain ⟨hdw, hew, hcells⟩ := s.loaded_iff.1 (hI.loaded (busy_of_rs hp))
  exact
    { cwForm := correctAll_keeps_wf h hI.cwForm
      outForm := by rw [hframe]; exact hI.outForm
      outFilled := by rw [hframe]; exact hI.outFilled
      atPhase := by rw [hframe]; exact hI.atPhase
      loaded := fun _ => by
        refine t.loaded_iff.2 ⟨by rw [hframe]; exact hdw, by rw [hframe]; exact hew, fun i hi => ?_⟩
        rw [hframe] at hi
        exact correctAll_keeps_values h (hcells i hi)
      noFault := by rw [hframe]; exact hI.noFault
      rsSilent := by rw [hframe]; exact hI.rsSilent
      roots := by rw [hframe]; exact hI.roots
      passed := by rw [hframe]; exact hI.passed
      payload := by rw [hframe]; exact hI.payload
      results := by rw [hframe]; exact hI.results }

theorem execRsCorr_keeps_inv {s t : State} (hI : Inv s) (hp : s.phase = .rs) (h : execRsCorr s = .next t) : Inv t := by
  unfold execRsCorr at h
  split at h
  · cases h
  · rename_i u hu
    cases h
    have hpu : u.phase = .rs := by rw [correctAll_frame hu]; exact hp
    exact (correctAll_keeps_inv hI hp hu).of_rsUpdate hpu rfl (by simp [goto, State.atPhase, hpu]) trivial

theorem execRsEnd_keeps_inv {s t : State} (hI : Inv s) (hp : s.phase = .rs) (h : execRsEnd s = .next t) : Inv t := by
  cases h
  exact hI.of_rsUpdate hp rfl (by simp [goto, State.atPhase, hp]) trivial

/-- The payload phase begins with nothing emitted and no fault recorded (R83, R112). -/
theorem Inv.enter_payload {s : State} (hI : Inv s) (hp : s.phase = .rs) (hstat : s.rsstat ≠ .unrecoverable) :
    Inv { s with phase := .payload, upc := .plInit } where
  cwForm := hI.cwForm
  outForm := hI.outForm
  outFilled := hI.outFilled
  atPhase := rfl
  loaded _ := hI.loaded (busy_of_rs hp)
  noFault _ := hI.noFault (busy_of_rs hp)
  rsSilent := nofun
  roots := nofun
  passed _ := hstat
  payload _ := hI.rsSilent hp
  results := nofun

theorem execSeqBranch_keeps_inv {s t : State} (hI : Inv s) (hp : s.phase = .rs) (h : execSeqBranch s = .next t) :
    Inv t := by
  obtain ⟨hcause, hfidx⟩ := hI.noFault (busy_of_rs hp)
  unfold execSeqBranch at h
  split at h <;> cases h <;> rename_i hstat
  · exact hI.of_done rfl (by simp [State.resultOk, hstat, hcause, hfidx, hI.rsSilent hp])
  · exact hI.enter_payload hp (by simp [hstat])
  · exact hI.enter_payload hp (by simp [hstat])

theorem execPlInit_keeps_inv {s t : State} (hI : Inv s) (hp : s.phase = .payload) (hu : s.upc = .plInit)
    (h : execPlInit s = .next t) : Inv t := by
  have holen : s.olen = 0 := by simpa only [State.payloadOk, hu] using hI.payload hp
  cases h
  exact hI.of_payloadRun hp ((PayloadRun.refl s).update rfl) (by simp [goto, State.atPhase, hp])
    ⟨Nat.zero_le _, rfl, fun h => absurd rfl h, holen.le⟩

theorem execPlLoop_keeps_inv {s t : State} (hI : Inv s) (hp : s.phase = .payload) (hu : s.upc = .plLoop)
    (h : execPlLoop s = .next t) : Inv t := by
  obtain ⟨hle, hrest⟩ := hI.loopAt hp (.inl hu)
  unfold execPlLoop at h
  split at h <;> cases h <;>
  exact hI.of_payloadRun hp ((PayloadRun.refl s).update rfl) (by simp [goto, State.atPhase, hp]) ⟨‹_›, hrest⟩

theorem execPlDispatch_keeps_inv {s t : State} (hI : Inv s) (hp : s.phase = .payload) (hu : s.upc = .plDispatch)
    (h : execPlDispatch s = .next t) : Inv t := by
  obtain ⟨hleft, hflags, htag, hbound⟩ := hI.groupReady hp (.inl hu)
  cases h
  exact hI.of_payloadRun hp ((PayloadRun.refl s).update rfl) (by simp [goto, State.atPhase, hp])
    ⟨hleft, hflags, htag, hbound⟩

/-- The trailer of R134 adds two bytes to the seven of the header, so the whole output is at most `2 DW + 7` (R48). -/
theorem execPlEnd_keeps_inv {s t : State} (hI : Inv s) (hp : s.phase = .payload) (hu : s.upc = .plEnd)
    (h : execPlEnd s = .next t) : Inv t := by
  obtain ⟨hle, -, htag, hbound⟩ := hI.loopAt hp (.inr hu)
  unfold emitLimit at hbound
  unfold execPlEnd at h
  split at h <;> cases h <;> rename_i hm
  · refine hI.of_payloadRun hp ((PayloadRun.refl s).update rfl) (by simp [goto, State.atPhase, hp]) ⟨hle, ?_⟩
    rw [if_pos hm] at hbound
    show s.olen ≤ if s.dw = 0 then 0 else 2 * s.dw + 7
    split_ifs <;> omega
  · refine hI.of_payloadRun hp ((PayloadRun.emitAll macroTrailer s).update rfl)
      (by simp [goto, State.atPhase, hp]) ⟨by simpa using hle, ?_⟩
    have hbehind := htag hm
    rw [if_neg hm] at hbound
    simp only [goto_olen, emitAll_olen, goto_dw, emitAll_dw, macroTrailer, List.length_cons, List.length_nil]
    split_ifs <;> omega

theorem execSeqDone_keeps_inv {s t : State} (hI : Inv s) (hp : s.phase = .payload) (h : execSeqDone s = .next t) :
    Inv t := by
  obtain ⟨hcause, hfidx⟩ := hI.noFault (busy_of_payload hp)
  have hstat := hI.passed hp
  rw [execSeqDone, if_pos hcause] at h
  cases h
  exact hI.of_done rfl (by simp [State.resultOk, hcause, hfidx, hstat])

/-- A group keeps the invariant (R48, R131, R216). -/
theorem execGroup_keeps_inv {s t : State} {i : Instr} (hI : Inv s) (hp : s.phase = .payload) (hu : s.upc = .group)
    (hf : fetchGroup s = .ok i) (h : exec i s = .next t) : Inv t := by
  obtain ⟨w, rest, hrest, rfl⟩ := fetchGroup_ok hf
  have hends := groupRow_ends (hI.groupReady hp (.inr hu)) w rest hrest
  rw [h] at hends
  cases hends with
  | again run hupc hok =>
    exact hI.of_payloadRun hp run (by simp [State.atPhase, run.phase_eq, hp, hupc]) hok
  | raised run hc => exact hI.of_raised hp run hc

/-! ## The invariant through a step -/

/-- What the block fetches and runs keeps the invariant. -/
theorem exec_fetch_keeps_inv {s t : State} {i : Instr} (hI : Inv s) (hb : s.busy = true) (hf : fetch s = .ok i)
    (h : exec i s = .next t) : Inv t := by
  have hat := hI.atPhase
  cases hp : s.phase with
  | idle => simp [State.busy, hp] at hb
  | done => simp [State.busy, hp] at hb
  | rs =>
    cases hu : s.upc <;> simp only [State.atPhase, hp, hu, Bool.false_eq_true] at hat
    all_goals
      simp only [fetch, hu, Except.ok.injEq] at hf
      subst hf
    case rsSynd => exact execRsSynd_keeps_inv hI hp h
    case rsZero => exact execRsZero_keeps_inv hI hp h
    case rsLoc => exact execRsLoc_keeps_inv hI hp h
    case rsChien => exact execRsChien_keeps_inv hI hp h
    case rsCount => exact execRsCount_keeps_inv hI hp hu h
    case rsMag => exact execRsMag_keeps_inv hI hp hu h
    case rsCorr => exact execRsCorr_keeps_inv hI hp h
    case rsEnd => exact execRsEnd_keeps_inv hI hp h
    case seqBranch => exact execSeqBranch_keeps_inv hI hp h
  | payload =>
    cases hu : s.upc <;> simp only [State.atPhase, hp, hu, Bool.false_eq_true] at hat
    all_goals simp only [fetch, hu, Except.ok.injEq] at hf
    case group => exact execGroup_keeps_inv hI hp hu hf h
    all_goals subst hf
    case plInit => exact execPlInit_keeps_inv hI hp hu h
    case plLoop => exact execPlLoop_keeps_inv hI hp hu h
    case plDispatch => exact execPlDispatch_keeps_inv hI hp hu h
    case plEnd => exact execPlEnd_keeps_inv hI hp hu h
    case seqDone => exact execSeqDone_keeps_inv hI hp h

/-- The host's list does not matter to the invariant. -/
theorem Inv.withHost {s : State} (hI : Inv s) (q : List HostEvent) : Inv (withHost q s) :=
  ⟨hI.cwForm, hI.outForm, hI.outFilled, hI.atPhase, hI.loaded, hI.noFault, hI.rsSilent, hI.roots, hI.passed,
    hI.payload, hI.results⟩

theorem inv_reset : Inv State.reset where
  cwForm := rfl
  outForm := rfl
  outFilled k hk := absurd hk (Nat.not_lt_zero k)
  atPhase := rfl
  loaded := nofun
  noFault := nofun
  rsSilent := nofun
  roots := nofun
  passed := nofun
  payload := nofun
  results := nofun

theorem execLoad_keeps_inv {s t : State} {dw ew : Option Nat} {cells : List Host.Cell} (hI : Inv s)
    (h : execLoad dw ew cells s = .next t) : Inv t := by
  rcases execLoad_cases dw ew cells s with ⟨-, he⟩ | ⟨-, f, -, he⟩ | ⟨hb, m, hm, he⟩
  · cases he.symm.trans h
  · cases he.symm.trans h
  · cases he.symm.trans h
    have hrest {p : Phase} (hp : s.phase = p) (hbusy : p = .rs ∨ p = .payload) : False := by
      rcases hbusy with rfl | rfl <;> simp [State.busy, hp] at hb
    exact
      { cwForm := (loadCells_inv hm).2 ▸ Mem.wf_writeAll cells hI.cwForm
        outForm := hI.outForm
        outFilled := hI.outFilled
        atPhase := hI.atPhase
        loaded := fun hbusy => absurd (hb.symm.trans hbusy) nofun
        noFault := hI.noFault
        rsSilent := hI.rsSilent
        roots := fun hp => (hrest hp (.inl rfl)).elim
        passed := hI.passed
        payload := fun hp => (hrest hp (.inr rfl)).elim
        results := hI.results }

theorem execStart_keeps_inv {s t : State} (hI : Inv s) (h : execStart s = .next t) : Inv t := by
  rcases execStart_cases s with ⟨-, he⟩ | ⟨-, -, he⟩ | ⟨-, hl, he⟩
  · cases he.symm.trans h
  · cases he.symm.trans h
  · cases he.symm.trans h
    exact
      { cwForm := hI.cwForm
        outForm := hI.outForm
        outFilled := fun k hk => absurd hk (Nat.not_lt_zero k)
        atPhase := rfl
        loaded := fun _ => hl
        noFault := fun _ => ⟨rfl, rfl⟩
        rsSilent := fun _ => rfl
        roots := fun _ => trivial
        passed := nofun
        payload := nofun
        results := nofun }

/-- What a turn can leave. -/
def Turn.outcome : Turn → Outcome
  | .settled s => .next s
  | .run i s => exec i s
  | .stop f => .fault f

theorem step_eq_outcome (s : State) : step s = (nextTurn s).outcome := by
  unfold step
  cases nextTurn s <;> rfl

/-- The block's own turn keeps the invariant. -/
theorem blockTurn_keeps_inv {s t : State} (hI : Inv s) (h : (blockTurn s).outcome = .next t) : Inv t := by
  rcases blockTurn_cases s with ⟨-, hturn⟩ | ⟨hb, i, hf, hturn⟩ | ⟨-, f, -, hturn⟩ <;> rw [hturn] at h
  · cases h
    exact hI
  · exact exec_fetch_keeps_inv hI hb hf h
  · cases h

theorem step_keeps_inv {s t : State} (hI : Inv s) (h : step s = .next t) : Inv t := by
  rw [step_eq_outcome] at h
  rcases nextTurn_cases s with ⟨q, -, hturn⟩ | ⟨q, -, hturn⟩ | ⟨dw, ew, cells, q, -, -, hturn⟩ | ⟨q, -, -, hturn⟩ |
      hturn <;> rw [hturn] at h
  · cases h
    exact inv_reset.withHost q
  · exact blockTurn_keeps_inv (hI.withHost q) h
  · exact execLoad_keeps_inv (hI.withHost q) h
  · exact execStart_keeps_inv (hI.withHost q) h
  · exact blockTurn_keeps_inv hI h

end Sys2Proof.Machine

open Sys2Proof.Machine

/-- Settles O57: a step is a reset, a host command, or what the block fetches and runs, and each of them keeps the
invariant. -/
theorem stepKeepsTheInvariant : Obligations.StepKeepsTheInvariant := fun _ _ => step_keeps_inv

/-- Settles O56. -/
theorem resetIsIdleAndMeetsTheInvariant : Obligations.ResetIsIdleAndMeetsTheInvariant :=
  ⟨rfl, fun a => ⟨Mem.read_nil a, Mem.read_nil a⟩, inv_reset⟩

end

section
namespace Sys2Proof.Machine

/-! ## What two runs of a transaction agree in

Two runs on the same input may differ in every register that no rule reads before the transaction writes it (R34). At
each position of the sequencer the runs agree in what is still read: the shared part below, and `Live`. -/

/-- What two runs agree in throughout. -/
structure Shared (s s' : State) : Prop where
  dw_eq : s.dw = s'.dw
  ew_eq : s.ew = s'.ew
  phase_eq : s.phase = s'.phase
  upc_eq : s.upc = s'.upc
  noEvent : s.host = []
  noEvent' : s'.host = []
  cw_eq : ∀ i, i < s.n → s.cw.read i = s'.cw.read i
  olen_eq : s.olen = s'.olen
  out_eq : ∀ a, a < s.olen → s.out.read a = s'.out.read a
  cause_eq : s.cause = s'.cause
  fidx_eq : s.fidx = s'.fidx

/-- What two runs agree in within the payload phase: also `RSSTAT` and the payload registers. -/
structure SharedPayload (s s' : State) : Prop extends Shared s s' where
  running : s.phase = .payload
  rsstat_eq : s.rsstat = s'.rsstat
  idx_eq : s.idx = s'.idx
  mode_eq : s.mode = s'.mode
  ush_eq : s.ush = s'.ush
  sset_eq : s.sset = s'.sset
  tag_eq : s.macroReg = s'.macroReg

/-- The registers that are still read where `PHASE` is `p` and the sequencer stands at `u`: in the RS phase those
written since RS.SYND that a later micro-operation reads (R117 to R126), then `RSSTAT`, the payload registers from
PL.INIT on, and at DONE the result registers. -/
def Live (p : Phase) (u : Micro) (s s' : State) : Prop :=
  match p, u with
  | .rs, .rsSynd | .rs, .rsEnd => True
  | .rs, .rsZero | .rs, .rsLoc => s.synd = s'.synd
  | .rs, .rsChien => s.synd = s'.synd ∧ s.sig = s'.sig
  | .rs, .rsCount | .rs, .rsMag => s.synd = s'.synd ∧ s.nroot = s'.nroot ∧ s.loc = s'.loc
  | .rs, .rsCorr => s.nroot = s'.nroot ∧ s.loc = s'.loc ∧ s.y = s'.y
  | .rs, .seqBranch | .payload, .plInit => s.rsstat = s'.rsstat
  | .payload, .plLoop | .payload, .plDispatch | .payload, .group | .payload, .plEnd | .payload, .seqDone =>
    SharedPayload s s'
  | .done, _ => s.rsstat = s'.rsstat ∧ s.result = s'.result
  | _, _ => False

/-- The two runs agree in all that the rest of the transaction, and the host at DONE, reads. -/
structure Alike (s s' : State) : Prop extends Shared s s' where
  live : Live s.phase s.upc s s'

/-- Two steps end alike: in states that agree, or both in the same stop. -/
inductive AlikeOutcome : Outcome → Outcome → Prop
  | next {t t' : State} (h : Alike t t') : AlikeOutcome (.next t) (.next t')
  | fault (f : Fault) : AlikeOutcome (.fault f) (.fault f)

/-- Two runs agree at position `u` of phase `p` where they agree in what is live there. -/
theorem Shared.alike_at {s s' : State} {p : Phase} {u : Micro} (h : Shared s s') (hp : s.phase = p) (hu : s.upc = u)
    (hl : Live p u s s') : AlikeOutcome (.next s) (.next s') := .next ⟨h, by rw [hp, hu]; exact hl⟩

theorem Alike.live_at {s s' : State} {p : Phase} {u : Micro} (h : Alike s s') (hp : s.phase = p) (hu : s.upc = u) :
    Live p u s s' := by
  have hl := h.live
  rwa [hp, hu] at hl

namespace Shared

variable {s s' : State}

theorem n_eq (h : Shared s s') : s.n = s'.n := by rw [State.n, State.n, h.dw_eq, h.ew_eq]

theorem t_eq (h : Shared s s') : s.t = s'.t := by rw [State.t, State.t, h.ew_eq]

theorem busy_eq (h : Shared s s') : s.busy = s'.busy := by rw [State.busy, State.busy, h.phase_eq]

theorem readCw_eq (h : Shared s s') (i : Nat) : readCw i s = readCw i s' := by
  unfold readCw
  rw [← h.n_eq]
  split
  · rename_i hi
    rw [h.cw_eq i hi]
  · rfl

theorem readRun_eq (h : Shared s s') (i len : Nat) : readRun i len s = readRun i len s' := by
  induction len generalizing i with
  | zero => rfl
  | succ k ih => rw [readRun, readRun, h.readCw_eq, ih]

theorem writeCw (h : Shared s s') (i : Nat) (b : Byte) : Shared (writeCw i b s) (writeCw i b s') :=
  { h with
    cw_eq := fun a ha => by
      simp only [writeCw_cw, Mem.read_write]
      rw [h.cw_eq a ha] }

theorem locatorMatrix_eq (h : Shared s s') (hsynd : s.synd = s'.synd) : locatorMatrix s = locatorMatrix s' := by
  unfold locatorMatrix syndAt
  rw [h.t_eq, hsynd]

theorem locatorRhs_eq (h : Shared s s') (hsynd : s.synd = s'.synd) : locatorRhs s = locatorRhs s' := by
  unfold locatorRhs syndAt
  rw [h.t_eq, hsynd]

end Shared

theorem magnitudeMatrix_eq {s s' : State} (hnroot : s.nroot = s'.nroot) (hloc : s.loc = s'.loc) :
    magnitudeMatrix s = magnitudeMatrix s' := by
  unfold magnitudeMatrix locAt
  rw [hnroot, hloc]

theorem magnitudeRhs_eq {s s' : State} (hnroot : s.nroot = s'.nroot) (hsynd : s.synd = s'.synd) :
    magnitudeRhs s = magnitudeRhs s' := by
  unfold magnitudeRhs syndAt
  rw [hnroot, hsynd]

/-! ## The RS phase of two runs -/

theorem execRsSynd_alike {s s' : State} (h : Shared s s') (hp : s.phase = .rs) :
    AlikeOutcome (execRsSynd s) (execRsSynd s') := by
  unfold execRsSynd
  rw [h.readRun_eq, h.n_eq]
  split
  · exact .fault _
  · rename_i cw _
    exact Shared.alike_at { h with upc_eq := rfl } hp rfl (congrArg (syndromes cw) h.t_eq)

theorem execRsZero_alike {s s' : State} (h : Shared s s') (hp : s.phase = .rs) (hsynd : s.synd = s'.synd) :
    AlikeOutcome (execRsZero s) (execRsZero s') := by
  unfold execRsZero syndAt
  rw [h.t_eq, hsynd]
  split
  · exact Shared.alike_at { h with upc_eq := rfl } hp rfl rfl
  · exact Shared.alike_at { h with upc_eq := rfl } hp rfl hsynd

theorem raiseUnrecoverable_alike {s s' : State} (h : Shared s s') (hp : s.phase = .rs) :
    AlikeOutcome (.next (raiseUnrecoverable s)) (.next (raiseUnrecoverable s')) :=
  Shared.alike_at { h with upc_eq := rfl } hp rfl rfl

theorem execRsLoc_alike {s s' : State} (h : Shared s s') (hp : s.phase = .rs) (hsynd : s.synd = s'.synd) :
    AlikeOutcome (execRsLoc s) (execRsLoc s') := by
  unfold execRsLoc
  rw [h.t_eq, h.locatorMatrix_eq hsynd, h.locatorRhs_eq hsynd]
  split
  · exact raiseUnrecoverable_alike h hp
  · exact Shared.alike_at { h with upc_eq := rfl } hp rfl ⟨hsynd, rfl⟩

theorem execRsChien_alike {s s' : State} (h : Shared s s') (hp : s.phase = .rs) (hsynd : s.synd = s'.synd)
    (hsig : s.sig = s'.sig) : AlikeOutcome (execRsChien s) (execRsChien s') := by
  have hroots : locatorRoots s.sig s.t s.n = locatorRoots s'.sig s'.t s'.n := by rw [hsig, h.t_eq, h.n_eq]
  exact Shared.alike_at { h with upc_eq := rfl } hp rfl ⟨hsynd, congrArg List.length hroots, hroots⟩

theorem execRsCount_alike {s s' : State} (h : Shared s s') (hp : s.phase = .rs) (hsynd : s.synd = s'.synd)
    (hnroot : s.nroot = s'.nroot) (hloc : s.loc = s'.loc) : AlikeOutcome (execRsCount s) (execRsCount s') := by
  unfold execRsCount
  rw [h.t_eq, hnroot]
  split
  · exact raiseUnrecoverable_alike h hp
  · exact Shared.alike_at { h with upc_eq := rfl } hp rfl ⟨hsynd, hnroot, hloc⟩

theorem execRsMag_alike {s s' : State} (h : Shared s s') (hp : s.phase = .rs) (hsynd : s.synd = s'.synd)
    (hnroot : s.nroot = s'.nroot) (hloc : s.loc = s'.loc) : AlikeOutcome (execRsMag s) (execRsMag s') := by
  have hsolve : solve s.nroot (magnitudeMatrix s) (magnitudeRhs s) =
      solve s'.nroot (magnitudeMatrix s') (magnitudeRhs s') := by
    rw [magnitudeMatrix_eq hnroot hloc, magnitudeRhs_eq hnroot hsynd, hnroot]
  unfold execRsMag
  rw [hsolve]
  split
  · exact raiseUnrecoverable_alike h hp
  · exact Shared.alike_at { h with upc_eq := rfl } hp rfl ⟨hnroot, hloc, rfl⟩

/-- The correction loop stops both runs with one fault, or corrects both streams alike. -/
theorem correctAll_alike {s s' : State} (ks : List Nat) (h : Shared s s') (hloc : s.loc = s'.loc) (hy : s.y = s'.y) :
    (∃ t t', correctAll ks s = .ok t ∧ correctAll ks s' = .ok t' ∧ Shared t t') ∨
    (∃ f, correctAll ks s = .error f ∧ correctAll ks s' = .error f) := by
  induction ks generalizing s s' with
  | nil => exact .inl ⟨s, s', rfl, rfl, h⟩
  | cons k ks ih =>
    have hlocAt : locAt s k = locAt s' k := by rw [locAt, locAt, hloc]
    have hyAt : yAt s k = yAt s' k := by rw [yAt, yAt, hy]
    rw [correctAll, correctAll, hlocAt, hyAt, h.n_eq, h.readCw_eq]
    split
    · split
      · exact .inr ⟨_, rfl, rfl⟩
      · exact ih (h.writeCw _ _) hloc hy
    · exact .inr ⟨_, rfl, rfl⟩

theorem execRsCorr_alike {s s' : State} (h : Shared s s') (hp : s.phase = .rs) (hnroot : s.nroot = s'.nroot)
    (hloc : s.loc = s'.loc) (hy : s.y = s'.y) : AlikeOutcome (execRsCorr s) (execRsCorr s') := by
  unfold execRsCorr
  rw [hnroot]
  rcases correctAll_alike (List.range s'.nroot) h hloc hy with ⟨t, t', ht, ht', hshared⟩ | ⟨f, hf, hf'⟩
  · have hpt : t.phase = .rs := by rw [correctAll_frame ht]; exact hp
    rw [ht, ht']
    exact Shared.alike_at { hshared with upc_eq := rfl } hpt rfl trivial
  · rw [hf, hf']
    exact .fault f

theorem execRsEnd_alike {s s' : State} (h : Shared s s') (hp : s.phase = .rs) :
    AlikeOutcome (execRsEnd s) (execRsEnd s') := Shared.alike_at { h with upc_eq := rfl } hp rfl rfl

theorem execSeqBranch_alike {s s' : State} (h : Shared s s') (hstat : s.rsstat = s'.rsstat) :
    AlikeOutcome (execSeqBranch s) (execSeqBranch s') := by
  unfold execSeqBranch
  rw [← hstat]
  split
  · exact Shared.alike_at (p := .done) { h with phase_eq := rfl } rfl rfl ⟨rfl, rfl⟩
  · exact Shared.alike_at (p := .payload) { h with phase_eq := rfl, upc_eq := rfl } rfl rfl rfl
  · exact Shared.alike_at (p := .payload) { h with phase_eq := rfl, upc_eq := rfl } rfl rfl rfl

/-! ## The payload operations of two runs -/

namespace SharedPayload

variable {s s' : State}

theorem goto (h : SharedPayload s s') (u : Micro) : SharedPayload (goto u s) (goto u s') := { h with upc_eq := rfl }

theorem advance (h : SharedPayload s s') (k : Nat) : SharedPayload (advance k s) (advance k s') :=
  { h with idx_eq := congrArg (· + k) h.idx_eq }

theorem jump (h : SharedPayload s s') {i i' : Nat} (hi : i = i') :
    SharedPayload { s with idx := i } { s' with idx := i' } := { h with idx_eq := hi }

theorem setShift (h : SharedPayload s s') (ss : ShiftSet) : SharedPayload (setShift ss s) (setShift ss s') :=
  { h with sset_eq := rfl }

theorem setUsh (h : SharedPayload s s') : SharedPayload (setUsh s) (setUsh s') := { h with ush_eq := rfl }

theorem latch (h : SharedPayload s s') (m : Mode) : SharedPayload (latch m s) (latch m s') :=
  { h with mode_eq := rfl, ush_eq := rfl }

theorem latchShifted (h : SharedPayload s s') (m : Mode) : SharedPayload (latchShifted m s) (latchShifted m s') :=
  { h with mode_eq := rfl, sset_eq := rfl, ush_eq := rfl }

theorem endPairRun (h : SharedPayload s s') : SharedPayload (endPairRun s) (endPairRun s') :=
  { h with mode_eq := rfl, sset_eq := rfl, ush_eq := rfl }

theorem endRun (h : SharedPayload s s') : SharedPayload (endRun s) (endRun s') :=
  { h with mode_eq := rfl, ush_eq := rfl }

theorem emit (h : SharedPayload s s') (b : Byte) : SharedPayload (emit b s) (emit b s') :=
  { h with
    olen_eq := congrArg (· + 1) h.olen_eq
    out_eq := fun a ha => by
      simp only [emit_out, Mem.read_write, ← h.olen_eq]
      split
      · rfl
      · have : a < s.olen + 1 := ha
        exact h.out_eq a (by omega) }

theorem emitAll (h : SharedPayload s s') (bs : List Byte) : SharedPayload (emitAll bs s) (emitAll bs s') := by
  induction bs generalizing s s' with
  | nil => exact h
  | cons b bs ih => exact ih (h.emit b)

theorem emitUs (h : SharedPayload s s') (b : Nat) : SharedPayload (emitUs b s) (emitUs b s') := by
  unfold Machine.emitUs
  rw [← h.ush_eq]
  split
  · exact { h.emit _ with ush_eq := rfl }
  · exact h.emit _

theorem runEdf (h : SharedPayload s s') (j : Nat) (vs : List Nat) : SharedPayload (runEdf j vs s) (runEdf j vs s') := by
  induction vs generalizing j s s' with
  | nil => exact h.advance 3
  | cons v vs ih =>
    unfold Machine.runEdf
    split_ifs
    · exact ih (h.emit _) (j + 1)
    · exact h.endRun.advance (edfResume j)
    · exact ih (h.emit _) (j + 1)

end SharedPayload

/-- Values of two runs end alike: done, or raising the same cause. -/
inductive AlikeEff : Eff → Eff → Prop
  | done {t t' : State} (h : SharedPayload t t') : AlikeEff (.done t) (.done t')
  | raised {t t' : State} (c : Cause) (h : SharedPayload t t') : AlikeEff (.raised c t) (.raised c t')

theorem valueOp_alike {s s' : State} (h : SharedPayload s s') (op : ValueOp) : AlikeEff (op.run s) (op.run s') := by
  cases op with
  | shift ss => exact .done (h.setShift ss)
  | basic b => exact .done (h.emitUs b)
  | shifted b => exact .done ((h.emitUs b).setShift .set0)
  | fnc1 => exact .done (h.setShift .set0)
  | upperShift => exact .done (h.setUsh.setShift .set0)
  | reserved => exact .raised .reservedValue h

theorem valueC40_alike (v : Nat) {s s' : State} (h : SharedPayload s s') :
    AlikeEff (valueC40 v s) (valueC40 v s') := by
  obtain ⟨op, hop⟩ := valueC40_eq_run v s.sset
  rw [hop s rfl, hop s' h.sset_eq.symm]
  exact valueOp_alike h op

theorem valueText_alike (v : Nat) {s s' : State} (h : SharedPayload s s') :
    AlikeEff (valueText v s) (valueText v s') := by
  obtain ⟨op, hop⟩ := valueText_eq_run v s.sset
  rw [hop s rfl, hop s' h.sset_eq.symm]
  exact valueOp_alike h op

theorem valueX12_alike (v : Nat) {s s' : State} (h : SharedPayload s s') :
    AlikeEff (valueX12 v s) (valueX12 v s') := by
  obtain ⟨b, hb⟩ := valueX12_eq_x12Char v
  rw [hb s, hb s']
  exact .done (h.emit (byte b))

theorem runValues_alike {value : Nat → State → Eff}
    (hv : ∀ v {s s' : State}, SharedPayload s s' → AlikeEff (value v s) (value v s')) (vs : List Nat) {s s' : State}
    (h : SharedPayload s s') : AlikeEff (runValues value vs s) (runValues value vs s') := by
  induction vs generalizing s s' with
  | nil => exact .done h
  | cons v vs ih =>
    rw [runValues_cons, runValues_cons]
    have hone := hv v h
    generalize value v s = e, value v s' = e' at hone ⊢
    cases hone with
    | done h => exact ih h
    | raised c h => exact .raised c h

/-! ## The groups of two runs -/

/-- The loop goes on alike after a group. -/
theorem SharedPayload.again {s s' : State} (h : SharedPayload s s') :
    AlikeOutcome (.next (endGroup s)) (.next (endGroup s')) :=
  (h.goto .plLoop).toShared.alike_at h.running rfl (h.goto .plLoop)

/-- A raised INVALID_PAYLOAD is recorded alike (R216). -/
theorem SharedPayload.raised {s s' : State} (h : SharedPayload s s') (c : Cause) :
    AlikeOutcome (.next (raiseInvalidPayload c s)) (.next (raiseInvalidPayload c s')) :=
  Shared.alike_at (p := .done)
    { h with
      phase_eq := rfl
      olen_eq := rfl
      out_eq := fun a ha => absurd ha (Nat.not_lt_zero a)
      cause_eq := rfl
      fidx_eq := h.idx_eq }
    rfl rfl ⟨h.rsstat_eq, rfl⟩

theorem SharedPayload.header {s s' : State} (h : SharedPayload s s') (m : MacroTag) (digit : Byte) :
    AlikeOutcome (.next (macroPrefix m digit s)) (.next (macroPrefix m digit s')) :=
  SharedPayload.again { h.emitAll (macroHeader digit) with tag_eq := rfl, idx_eq := rfl }

theorem decodeAscii_alike {s s' : State} (h : SharedPayload s s') (idx : Nat) (w : Byte) (next : Option Byte) :
    AlikeOutcome (exec (decodeAscii idx w next) s) (exec (decodeAscii idx w next) s') := by
  have hreserved : AlikeOutcome (reservedCodeword s) (reservedCodeword s') := h.raised .reservedCodeword
  fun_cases decodeAscii
  · exact hreserved
  · exact ((h.emitUs _).advance 1).again
  · exact (h.jump h.dw_eq).again
  · exact ((h.emitAll _).advance 1).again
  · exact ((h.latchShifted .c40).advance 1).again
  · exact ((h.latch .base256).advance 1).again
  · exact (h.advance 1).again
  · exact hreserved
  · exact (h.setUsh.advance 1).again
  · exact h.header .five 0x35
  · exact hreserved
  · exact h.header .six 0x36
  · exact hreserved
  · exact ((h.latch .x12).advance 1).again
  · exact ((h.latchShifted .text).advance 1).again
  · exact ((h.latch .edifact).advance 1).again
  · exact (h.jump (by rw [h.idx_eq, h.dw_eq])).again
  · exact hreserved

theorem pairForm_alike {s s' : State} (h : SharedPayload s s') {value : Nat → State → Eff}
    (hv : ∀ v {s s' : State}, SharedPayload s s' → AlikeEff (value v s) (value v s')) (f : PairForm) :
    AlikeOutcome (runPairForm value f s) (runPairForm value f s') := by
  cases f with
  | short => exact h.endPairRun.again
  | unl => exact (h.endPairRun.advance 1).again
  | pair0 => exact h.raised .reservedTriple
  | tri a b c =>
    have hvals := runValues_alike hv [a, b, c] h
    show AlikeOutcome (triple value a b c s) (triple value a b c s')
    unfold triple
    generalize runValues value [a, b, c] s = e, runValues value [a, b, c] s' = e' at hvals ⊢
    cases hvals with
    | done h => exact (h.advance 2).again
    | raised cause h => exact h.raised cause
  | pairHi num => exact h.raised .reservedTriple

theorem decodeEdifact_alike {s s' : State} (h : SharedPayload s s') (w : Byte) (rest : List Byte) :
    AlikeOutcome (exec (decodeEdifact w rest) s) (exec (decodeEdifact w rest) s') := by
  match rest with
  | [] | [_] => exact h.endRun.again
  | w₂ :: w₃ :: _ => exact (h.runEdf 0 [edfV0 w, edfV1 w w₂, edfV2 w₂ w₃, edfV3 w₃]).again

theorem base256Field_alike {s s' : State} (h : SharedPayload s s') (start len : Nat) :
    AlikeOutcome (base256Field start len s) (base256Field start len s') := by
  unfold base256Field
  rw [h.dw_eq, h.readRun_eq]
  split
  · exact h.raised .b256Overrun
  · split
    · exact .fault _
    · exact ((h.emitAll _).jump rfl).endRun.again

theorem decodeBase256_alike {s s' : State} (h : SharedPayload s s') (idx : Nat) (w : Byte) (next : Option Byte) :
    AlikeOutcome (exec (decodeBase256 idx w next) s) (exec (decodeBase256 idx w next) s') := by
  unfold decodeBase256
  split_ifs
  · show AlikeOutcome (base256Field (s.idx + 1) (s.dw - (s.idx + 1)) s)
      (base256Field (s'.idx + 1) (s'.dw - (s'.idx + 1)) s')
    rw [h.idx_eq, h.dw_eq]
    exact base256Field_alike h _ _
  · show AlikeOutcome (base256Field (s.idx + 1) _ s) (base256Field (s'.idx + 1) _ s')
    rw [h.idx_eq]
    exact base256Field_alike h _ _
  · cases next with
    | none => exact h.raised .b256Overrun
    | some d =>
      show AlikeOutcome (base256Field (s.idx + 2) _ s) (base256Field (s'.idx + 2) _ s')
      rw [h.idx_eq]
      exact base256Field_alike h _ _

theorem groupRow_alike {s s' : State} (h : SharedPayload s s') (m : Mode) (idx : Nat) (w : Byte) (rest : List Byte) :
    AlikeOutcome (exec (groupRow m idx w rest) s) (exec (groupRow m idx w rest) s') := by
  cases m with
  | ascii => exact decodeAscii_alike h idx w rest.head?
  | c40 =>
    rw [groupRow, exec_c40, exec_c40]
    exact pairForm_alike h valueC40_alike _
  | text =>
    rw [groupRow, exec_text, exec_text]
    exact pairForm_alike h valueText_alike _
  | x12 =>
    rw [groupRow, exec_x12, exec_x12]
    exact pairForm_alike h valueX12_alike _
  | edifact => exact decodeEdifact_alike h w rest
  | base256 => exact decodeBase256_alike h idx w rest.head?

/-- Both runs fetch the same group, or stop alike. -/
theorem fetchGroup_eq {s s' : State} (h : SharedPayload s s') : fetchGroup s = fetchGroup s' := by
  unfold fetchGroup fetchFault
  rw [h.readRun_eq, h.mode_eq, h.idx_eq, h.dw_eq]

/-! ## The frame of the payload phase of two runs -/

theorem execPlInit_alike {s s' : State} (h : Shared s s') (hp : s.phase = .payload) (hstat : s.rsstat = s'.rsstat) :
    AlikeOutcome (execPlInit s) (execPlInit s') :=
  Shared.alike_at { h with upc_eq := rfl } hp rfl
    { h with
      upc_eq := rfl, running := hp, rsstat_eq := hstat, idx_eq := rfl, mode_eq := rfl, ush_eq := rfl, sset_eq := rfl
      tag_eq := rfl }

theorem execPlLoop_alike {s s' : State} (h : SharedPayload s s') : AlikeOutcome (execPlLoop s) (execPlLoop s') := by
  unfold execPlLoop
  rw [h.idx_eq, h.dw_eq]
  split
  · exact Shared.alike_at (h.goto .plDispatch).toShared h.running rfl (h.goto .plDispatch)
  · exact Shared.alike_at (h.goto .plEnd).toShared h.running rfl (h.goto .plEnd)

theorem execPlDispatch_alike {s s' : State} (h : SharedPayload s s') :
    AlikeOutcome (execPlDispatch s) (execPlDispatch s') :=
  Shared.alike_at (h.goto .group).toShared h.running rfl (h.goto .group)

theorem execPlEnd_alike {s s' : State} (h : SharedPayload s s') : AlikeOutcome (execPlEnd s) (execPlEnd s') := by
  unfold execPlEnd
  rw [h.tag_eq]
  split
  · exact Shared.alike_at (h.goto .seqDone).toShared h.running rfl (h.goto .seqDone)
  · have ht := (h.emitAll macroTrailer).goto .seqDone
    exact Shared.alike_at ht.toShared ht.running rfl ht

theorem execSeqDone_alike {s s' : State} (h : SharedPayload s s') : AlikeOutcome (execSeqDone s) (execSeqDone s') := by
  unfold execSeqDone
  rw [← h.cause_eq]
  split
  · exact Shared.alike_at (p := .done) { h with phase_eq := rfl, cause_eq := rfl } rfl rfl ⟨h.rsstat_eq, rfl⟩
  · exact Shared.alike_at (p := .done)
      { h with phase_eq := rfl, cause_eq := rfl, olen_eq := rfl, out_eq := fun a ha => absurd ha (Nat.not_lt_zero a) }
      rfl rfl ⟨h.rsstat_eq, rfl⟩

/-! ## A step of two runs -/

/-- With no host event left, the block runs what it fetches. -/
theorem step_of_fetch {s : State} {i : Instr} (hq : s.host = []) (hb : s.busy = true) (hf : fetch s = .ok i) :
    step s = exec i s := by
  simp [step, nextTurn, hq, blockTurn, hb, hf]

theorem step_of_fetch_error {s : State} {f : Fault} (hq : s.host = []) (hb : s.busy = true)
    (hf : fetch s = .error f) : step s = .fault f := by
  simp [step, nextTurn, hq, blockTurn, hb, hf]

theorem step_of_not_busy {s : State} (hq : s.host = []) (hb : s.busy = false) : step s = .next s := by
  simp [step, nextTurn, hq, blockTurn, hb]

/-- Two runs that fetch the same instruction and execute it alike take a step alike. -/
theorem Shared.step_alike {s s' : State} (h : Shared s s') (hb : s.busy = true) {i : Instr} (hf : fetch s = .ok i)
    (hf' : fetch s' = .ok i) (hexec : AlikeOutcome (exec i s) (exec i s')) : AlikeOutcome (step s) (step s') := by
  rw [step_of_fetch h.noEvent hb hf, step_of_fetch h.noEvent' (h.busy_eq ▸ hb) hf']
  exact hexec

/-- The instruction of a position that is not a group. -/
def Micro.instr : Micro → Option Instr
  | .rsSynd => some .rsSynd
  | .rsZero => some .rsZero
  | .rsLoc => some .rsLoc
  | .rsChien => some .rsChien
  | .rsCount => some .rsCount
  | .rsMag => some .rsMag
  | .rsCorr => some .rsCorr
  | .rsEnd => some .rsEnd
  | .seqBranch => some .seqBranch
  | .plInit => some .plInit
  | .plLoop => some .plLoop
  | .plDispatch => some .plDispatch
  | .group => none
  | .plEnd => some .plEnd
  | .seqDone => some .seqDone

theorem fetch_of_instr {s : State} {i : Instr} (h : s.upc.instr = some i) : fetch s = .ok i := by
  cases hu : s.upc <;> simp_all [fetch, Micro.instr]

/-- Two runs at the same micro-operation take a step alike where it runs alike. -/
theorem Shared.micro_alike {s s' : State} (h : Shared s s') (hb : s.busy = true) {u : Micro} {i : Instr}
    (hu : s.upc = u) (hi : u.instr = some i) (hexec : AlikeOutcome (exec i s) (exec i s')) :
    AlikeOutcome (step s) (step s') :=
  h.step_alike hb (fetch_of_instr (hu ▸ hi)) (fetch_of_instr (h.upc_eq ▸ hu ▸ hi)) hexec

theorem group_alike {s s' : State} (h : SharedPayload s s') (hu : s.upc = .group) : AlikeOutcome (step s) (step s') := by
  have hb : s.busy = true := busy_of_payload h.running
  have hf : fetch s = fetchGroup s := by rw [fetch, hu]
  have hf' : fetch s' = fetchGroup s := by rw [fetch, ← h.upc_eq, hu, fetchGroup_eq h]
  cases hg : fetchGroup s with
  | error f =>
    rw [step_of_fetch_error h.noEvent hb (hf.trans hg),
      step_of_fetch_error h.noEvent' (h.busy_eq ▸ hb) (hf'.trans hg)]
    exact .fault f
  | ok i =>
    obtain ⟨w, rest, -, rfl⟩ := fetchGroup_ok hg
    exact h.step_alike hb (hf.trans hg) (hf'.trans hg) (groupRow_alike h s.mode s.idx w rest)

theorem rs_step_alike {s s' : State} (h : Alike s s') (hp : s.phase = .rs) : AlikeOutcome (step s) (step s') := by
  have hs := h.toShared
  have hb : s.busy = true := busy_of_rs hp
  cases hu : s.upc <;> have hlive := h.live_at hp hu
  case rsSynd => exact hs.micro_alike hb hu rfl (execRsSynd_alike hs hp)
  case rsZero => exact hs.micro_alike hb hu rfl (execRsZero_alike hs hp hlive)
  case rsLoc => exact hs.micro_alike hb hu rfl (execRsLoc_alike hs hp hlive)
  case rsChien =>
    obtain ⟨hsynd, hsig⟩ := hlive
    exact hs.micro_alike hb hu rfl (execRsChien_alike hs hp hsynd hsig)
  case rsCount =>
    obtain ⟨hsynd, hnroot, hloc⟩ := hlive
    exact hs.micro_alike hb hu rfl (execRsCount_alike hs hp hsynd hnroot hloc)
  case rsMag =>
    obtain ⟨hsynd, hnroot, hloc⟩ := hlive
    exact hs.micro_alike hb hu rfl (execRsMag_alike hs hp hsynd hnroot hloc)
  case rsCorr =>
    obtain ⟨hnroot, hloc, hy⟩ := hlive
    exact hs.micro_alike hb hu rfl (execRsCorr_alike hs hp hnroot hloc hy)
  case rsEnd => exact hs.micro_alike hb hu rfl (execRsEnd_alike hs hp)
  case seqBranch => exact hs.micro_alike hb hu rfl (execSeqBranch_alike hs hlive)
  all_goals exact hlive.elim

theorem payload_step_alike {s s' : State} (h : Alike s s') (hp : s.phase = .payload) :
    AlikeOutcome (step s) (step s') := by
  have hs := h.toShared
  have hb : s.busy = true := busy_of_payload hp
  cases hu : s.upc <;> have hlive := h.live_at hp hu
  case plInit => exact hs.micro_alike hb hu rfl (execPlInit_alike hs hp hlive)
  case plLoop => exact hs.micro_alike hb hu rfl (execPlLoop_alike hlive)
  case plDispatch => exact hs.micro_alike hb hu rfl (execPlDispatch_alike hlive)
  case group => exact group_alike hlive hu
  case plEnd => exact hs.micro_alike hb hu rfl (execPlEnd_alike hlive)
  case seqDone => exact hs.micro_alike hb hu rfl (execSeqDone_alike hlive)
  all_goals exact hlive.elim

/-- Two runs that agree take a step alike: at DONE nothing changes any more (R85). -/
theorem step_alike {s s' : State} (h : Alike s s') : AlikeOutcome (step s) (step s') := by
  cases hp : s.phase with
  | idle => exact (h.live_at hp rfl).elim
  | rs => exact rs_step_alike h hp
  | payload => exact payload_step_alike h hp
  | done =>
    have hb : s.busy = false := by simp [State.busy, hp]
    rw [step_of_not_busy h.noEvent hb, step_of_not_busy h.noEvent' (h.busy_eq ▸ hb)]
    exact .next h

/-- The machine's run, unrolled by one step. -/
theorem core_run_succ (k : Nat) (s : State) : Host.Core.run Sys2Proof.core (k + 1) s =
    match step s with
    | .next t => Host.Core.run Sys2Proof.core k t
    | .fault f => .fault f
    | .refused r => .refused r := by
  cases h : step s <;>
  exact (Host.Core.run.eq_2 Sys2Proof.core s k).trans (by rw [show Sys2Proof.core.step s = _ from h])

/-- Any number of steps of two runs that agree end alike. -/
theorem run_alike (k : Nat) {s s' : State} (h : Alike s s') :
    AlikeOutcome (Host.Core.run Sys2Proof.core k s) (Host.Core.run Sys2Proof.core k s') := by
  induction k generalizing s s' with
  | zero => exact .next h
  | succ k ih =>
    have hstep := step_alike h
    rw [core_run_succ, core_run_succ]
    generalize step s = o, step s' = o' at hstep ⊢
    cases hstep with
    | next h => exact ih h
    | fault f => exact .fault f

/-- START accepted on the same input begins two runs that agree (R81). -/
theorem start_alike {s s' t t' : State} (hin : SameInput s s') (hq : s.host = []) (hq' : s'.host = [])
    (ht : execStart s = .next t) (ht' : execStart s' = .next t') : Alike t t' := by
  obtain ⟨hdw, hew, hcw⟩ := hin
  rcases execStart_cases s with ⟨-, he⟩ | ⟨-, -, he⟩ | ⟨-, -, he⟩ <;> cases he.symm.trans ht
  rcases execStart_cases s' with ⟨-, he'⟩ | ⟨-, -, he'⟩ | ⟨-, -, he'⟩ <;> cases he'.symm.trans ht'
  exact
    { dw_eq := hdw
      ew_eq := hew
      phase_eq := rfl
      upc_eq := rfl
      noEvent := hq
      noEvent' := hq'
      cw_eq := hcw
      olen_eq := rfl
      out_eq := fun a ha => absurd ha (Nat.not_lt_zero a)
      cause_eq := rfl
      fidx_eq := rfl
      live := trivial }

/-- Of two runs that agree the host sees the same (R238). -/
theorem Alike.visible_eq {s s' : State} (h : Alike s s') : s.visible = s'.visible := by
  have hphase := h.phase_eq
  cases hp : s.phase with
  | done =>
    obtain ⟨hstat, hres⟩ : s.rsstat = s'.rsstat ∧ s.result = s'.result := h.live_at hp rfl
    have hout : (List.range s'.olen).map s.out.read = (List.range s'.olen).map s'.out.read :=
      List.map_congr_left fun a ha => h.out_eq a (by rw [h.olen_eq]; exact List.mem_range.1 ha)
    have hcw : (List.range s'.n).map s.cw.read = (List.range s'.n).map s'.cw.read :=
      List.map_congr_left fun i hi => h.cw_eq i (by rw [h.n_eq]; exact List.mem_range.1 hi)
    simp only [State.visible, ← hphase, hp, hstat, hres, h.cause_eq, h.fidx_eq, h.olen_eq, h.n_eq, hout, hcw]
  | idle | rs | payload => simp only [State.visible, ← hphase, hp]

end Sys2Proof.Machine

open Sys2Proof.Machine

/-- Settles O60: from START on the two runs agree in all that is still read, at every step. -/
theorem transactionIsAFunctionOfItsInput : Obligations.TransactionIsAFunctionOfItsInput := by
  intro s s' t t' hin hq hq' ht ht' k u u' hu hu'
  have hrun := run_alike k (start_alike hin hq hq' ht ht')
  rw [hu, hu'] at hrun
  cases hrun with
  | next h => exact h.visible_eq

end

section
/-! PROOFS. The memory family: a running transaction makes no illegal access, and the host's operations outside the
protocol stop by name. -/

namespace Sys2Proof.Machine

/-! ## The accesses to `CW` of a running transaction (R42) -/

/-- The codewords of the data region can be read once the load is complete. -/
theorem readRun_of_dataRegion {i len : Nat} {s : State} (h : s.loaded = true) (hi : i + len ≤ s.dw) :
    ∃ ws, readRun i len s = .ok ws :=
  readRun_of_loaded h (hi.trans (Nat.le_add_right s.dw s.ew))

/-- A correction leaves the load complete: a write takes no value away. -/
theorem loaded_writeCw {s : State} (h : s.loaded = true) (i : Nat) (b : Byte) : (writeCw i b s).loaded = true := by
  obtain ⟨hdw, hew, hcells⟩ := s.loaded_iff.1 h
  exact (State.loaded_iff _).2 ⟨hdw, hew, fun a ha => Mem.isSome_read_write i b (hcells a ha)⟩

/-- The correction loop answers where every position it looks up lies below `n` (R125). -/
theorem correctAll_of_loaded (ks : List Nat) {s : State} (h : s.loaded = true) (hks : ∀ k ∈ ks, locAt s k < s.n) :
    ∃ t, correctAll ks s = .ok t := by
  induction ks generalizing s with
  | nil => exact ⟨s, rfl⟩
  | cons k ks ih =>
    obtain ⟨hk, hrest⟩ := List.forall_mem_cons.1 hks
    obtain ⟨b, hb⟩ := readCw_of_loaded h (i := s.n - 1 - locAt s k) (by omega)
    simp only [correctAll, hk, hb, if_true]
    exact ih (loaded_writeCw h _ _) hrest

/-- The positions that RS.CHIEN recorded lie below `n` (R121). -/
theorem Inv.locAt_lt {s : State} (hI : Inv s) (hp : s.phase = .rs) (hu : s.upc = .rsCorr) {k : Nat}
    (hk : k < s.nroot) : locAt s k < s.n := by
  obtain ⟨hlen, -, hroots⟩ := hI.rootsAt hp (.inr (.inr hu))
  have hk' : k < s.loc.length := hlen ▸ hk
  rw [locAt, List.getD_eq_getElem _ _ hk']
  exact hroots _ (List.getElem_mem hk')

/-! ## The fetch of a group -/

/-- With codewords left, and as many of them given as the longest group needs, a group decodes (R70). -/
theorem decodeGroup_of_length (m : Mode) (idx : Nat) {left : Nat} {ws : List Byte} (hleft : 0 < left)
    (hws : ws.length = min left 3) : ∃ i, decodeGroup m idx left ws = .ok i := by
  cases ws with
  | nil =>
    simp only [List.length_nil] at hws
    omega
  | cons w ws =>
    obtain ⟨k, rfl⟩ := Nat.exists_eq_add_of_lt hleft
    simp only [decodeGroup, hws, List.take_succ_cons, lt_irrefl, if_false]
    cases m <;> exact ⟨_, rfl⟩

/-- While `IDX < DW` the fetch answers a group (R131, R133). -/
theorem fetchGroup_of_loaded {s : State} (h : s.loaded = true) (hidx : s.idx < s.dw) : ∃ i, fetchGroup s = .ok i := by
  obtain ⟨ws, hws⟩ := readRun_of_dataRegion h (i := s.idx) (len := min (s.dw - s.idx) 3) (by omega)
  obtain ⟨i, hi⟩ := decodeGroup_of_length s.mode s.idx (Nat.sub_pos_of_lt hidx) (readRun_ok.1 hws).1
  exact ⟨i, by simp only [fetchGroup, hws, hi]⟩

/-! ## The groups answer a next state -/

theorem decodeAscii_answers (idx : Nat) (w : Byte) (next : Option Byte) (s : State) :
    ∃ t, exec (decodeAscii idx w next) s = .next t := by
  fun_cases decodeAscii <;> exact ⟨_, rfl⟩

theorem runPairForm_answers (value : Nat → State → Eff) (f : PairForm) (s : State) :
    ∃ t, runPairForm value f s = .next t := by
  cases f with
  | short | unl | pair0 | pairHi num => exact ⟨_, rfl⟩
  | tri a b c =>
    rcases triple_cases value a b c s with ⟨t, -, hr⟩ | ⟨cause, t, -, hr⟩ <;> exact ⟨_, hr⟩

theorem decodeEdifact_answers (w : Byte) (rest : List Byte) (s : State) :
    ∃ t, exec (decodeEdifact w rest) s = .next t := by
  fun_cases decodeEdifact <;> exact ⟨_, rfl⟩

/-- A Base256 field overruns, which is an exception, or lies in the data region, whose codewords can be read (R204). -/
theorem base256Field_answers {s : State} (h : s.loaded = true) (start len : Nat) :
    ∃ t, base256Field start len s = .next t := by
  rcases base256Field_cases start len s with ⟨-, hr⟩ | ⟨-, ws, -, hr⟩ | ⟨hle, f, hf, -⟩
  · exact ⟨_, hr⟩
  · exact ⟨_, hr⟩
  · obtain ⟨ws, hws⟩ := readRun_of_dataRegion h hle
    cases hf.symm.trans hws

theorem decodeBase256_answers {s : State} (h : s.loaded = true) (idx : Nat) (w : Byte) (next : Option Byte) :
    ∃ t, exec (decodeBase256 idx w next) s = .next t := by
  unfold decodeBase256
  split_ifs
  · exact base256Field_answers h _ _
  · exact base256Field_answers h _ _
  · cases next with
    | none => exact ⟨_, rfl⟩
    | some d => exact base256Field_answers h _ _

/-- Every group answers a next state once the load is complete. -/
theorem groupRow_answers {s : State} (h : s.loaded = true) (m : Mode) (idx : Nat) (w : Byte) (rest : List Byte) :
    ∃ t, exec (groupRow m idx w rest) s = .next t := by
  cases m with
  | ascii => exact decodeAscii_answers idx w rest.head? s
  | c40 => exact exec_c40 _ s ▸ runPairForm_answers valueC40 _ s
  | text => exact exec_text _ s ▸ runPairForm_answers valueText _ s
  | x12 => exact exec_x12 _ s ▸ runPairForm_answers valueX12 _ s
  | edifact => exact decodeEdifact_answers w rest s
  | base256 => exact decodeBase256_answers h idx w rest.head?

theorem group_answers {s : State} (h : s.loaded = true) (hidx : s.idx < s.dw) :
    ∃ i, fetchGroup s = .ok i ∧ ∃ t, exec i s = .next t := by
  obtain ⟨i, hf⟩ := fetchGroup_of_loaded h hidx
  obtain ⟨w, rest, -, rfl⟩ := fetchGroup_ok hf
  exact ⟨_, hf, groupRow_answers h _ _ w rest⟩

/-! ## The micro-operations answer a next state -/

theorem execRsSynd_answers {s : State} (h : s.loaded = true) : ∃ t, execRsSynd s = .next t := by
  obtain ⟨cw, hcw⟩ := readRun_of_loaded h (i := 0) (len := s.n) (Nat.zero_add s.n).le
  exact ⟨_, by rw [execRsSynd, hcw]⟩

theorem execRsZero_answers (s : State) : ∃ t, execRsZero s = .next t := by
  unfold execRsZero
  split <;> exact ⟨_, rfl⟩

/-- An inconsistent locator system is an exception, which is a next state (R120). -/
theorem execRsLoc_answers (s : State) : ∃ t, execRsLoc s = .next t := by
  unfold execRsLoc
  split <;> exact ⟨_, rfl⟩

theorem execRsCount_answers (s : State) : ∃ t, execRsCount s = .next t := by
  unfold execRsCount
  split <;> exact ⟨_, rfl⟩

/-- An inconsistent magnitude system is an exception, which is a next state (R124). -/
theorem execRsMag_answers (s : State) : ∃ t, execRsMag s = .next t := by
  unfold execRsMag
  split <;> exact ⟨_, rfl⟩

theorem execRsCorr_answers {s : State} (h : s.loaded = true) (hloc : ∀ k, k < s.nroot → locAt s k < s.n) :
    ∃ t, execRsCorr s = .next t := by
  obtain ⟨u, hu⟩ := correctAll_of_loaded (List.range s.nroot) h fun k hk => hloc k (List.mem_range.1 hk)
  exact ⟨_, by rw [execRsCorr, hu]⟩

theorem execSeqBranch_answers (s : State) : ∃ t, execSeqBranch s = .next t := by
  unfold execSeqBranch
  split <;> exact ⟨_, rfl⟩

theorem execPlLoop_answers (s : State) : ∃ t, execPlLoop s = .next t := by
  unfold execPlLoop
  split <;> exact ⟨_, rfl⟩

theorem execPlEnd_answers (s : State) : ∃ t, execPlEnd s = .next t := by
  unfold execPlEnd
  split <;> exact ⟨_, rfl⟩

theorem execSeqDone_answers (s : State) : ∃ t, execSeqDone s = .next t := by
  unfold execSeqDone
  split <;> exact ⟨_, rfl⟩

/-! ## A step of a running transaction -/

/-- RS.CORR is a position of the RS phase. -/
theorem Inv.phase_of_rsCorr {s : State} (hI : Inv s) (hb : s.busy = true) (hu : s.upc = .rsCorr) : s.phase = .rs := by
  have hat := hI.atPhase
  cases hp : s.phase <;> simp_all [State.busy, State.atPhase]

/-- A group is executed in the payload phase. -/
theorem Inv.phase_of_group {s : State} (hI : Inv s) (hb : s.busy = true) (hu : s.upc = .group) :
    s.phase = .payload := by
  have hat := hI.atPhase
  cases hp : s.phase <;> simp_all [State.busy, State.atPhase]

/-- A running block fetches an instruction, which answers a next state. Three positions access `CW`: RS.SYND,
RS.CORR and a group. -/
theorem Inv.fetch_answers {s : State} (hI : Inv s) (hb : s.busy = true) :
    ∃ i, fetch s = .ok i ∧ ∃ t, exec i s = .next t := by
  have hload : s.loaded = true := hI.loaded hb
  have hmicro {i : Instr} (hi : s.upc.instr = some i) (h : ∃ t, exec i s = .next t) :
      ∃ i, fetch s = .ok i ∧ ∃ t, exec i s = .next t := ⟨i, fetch_of_instr hi, h⟩
  cases hu : s.upc <;> rw [hu] at hmicro
  case rsSynd => exact hmicro rfl (execRsSynd_answers hload)
  case rsZero => exact hmicro rfl (execRsZero_answers s)
  case rsLoc => exact hmicro rfl (execRsLoc_answers s)
  case rsChien => exact hmicro rfl ⟨_, rfl⟩
  case rsCount => exact hmicro rfl (execRsCount_answers s)
  case rsMag => exact hmicro rfl (execRsMag_answers s)
  case rsCorr => exact hmicro rfl (execRsCorr_answers hload fun _ => hI.locAt_lt (hI.phase_of_rsCorr hb hu) hu)
  case rsEnd => exact hmicro rfl ⟨_, rfl⟩
  case seqBranch => exact hmicro rfl (execSeqBranch_answers s)
  case plInit => exact hmicro rfl ⟨_, rfl⟩
  case plLoop => exact hmicro rfl (execPlLoop_answers s)
  case plDispatch => exact hmicro rfl ⟨_, rfl⟩
  case group =>
    have hready := hI.groupReady (hI.phase_of_group hb hu) (.inr hu)
    rw [fetch, hu]
    exact group_answers hload hready.left
  case plEnd => exact hmicro rfl (execPlEnd_answers s)
  case seqDone => exact hmicro rfl (execSeqDone_answers s)

theorem Inv.blockTurn_answers {s : State} (hI : Inv s) (hb : s.busy = true) :
    ∃ t, (blockTurn s).outcome = .next t := by
  obtain ⟨i, hf, t, ht⟩ := hI.fetch_answers hb
  exact ⟨t, by rw [blockTurn, if_pos hb, hf]; exact ht⟩

/-- A reset acts at once; every other host event leaves a running block its turn (R231). -/
theorem Inv.step_answers {s : State} (hI : Inv s) (hb : s.busy = true) : ∃ t, step s = .next t := by
  rw [step_eq_outcome]
  rcases nextTurn_cases s with ⟨q, -, hturn⟩ | ⟨q, -, hturn⟩ | ⟨dw, ew, cells, q, -, hidle, -⟩ | ⟨q, -, hidle, -⟩ |
      hturn
  · exact ⟨_, by rw [hturn]; rfl⟩
  · exact hturn ▸ (hI.withHost q).blockTurn_answers hb
  · cases hb.symm.trans hidle
  · cases hb.symm.trans hidle
  · exact hturn ▸ hI.blockTurn_answers hb

/-! ## The host's operations outside the protocol (R236, R237) -/

theorem execLoad_of_busy {s : State} (hb : s.busy = true) (dw ew : Option Nat) (cells : List Host.Cell) :
    execLoad dw ew cells s = .refused .hostBusy := by
  rw [execLoad, if_pos hb]

theorem execStart_of_busy {s : State} (hb : s.busy = true) : execStart s = .refused .hostBusy := by
  rw [execStart, if_pos hb]

/-- What an incomplete load is. -/
theorem State.loaded_eq_false_iff (s : State) :
    s.loaded = false ↔ s.dwLoaded = false ∨ s.ewLoaded = false ∨ ∃ i, i < s.n ∧ s.cw.read i = none := by
  simp [State.loaded, -Bool.and_eq_false_imp, Bool.and_eq_false_iff, or_assoc]

theorem execStart_of_not_loaded {s : State} (hb : s.busy = false) (hl : s.loaded = false) :
    execStart s = .refused .unloadedStart := by
  simp [execStart, hb, hl]

theorem execLoad_of_noSuchCell {s : State} (hb : s.busy = false) {dw ew : Option Nat} {cells : List Host.Cell}
    {c : Host.Cell} (hc : cells.find? (fun d => decide (dw.getD s.dw + ew.getD s.ew ≤ d.1)) = some c) :
    execLoad dw ew cells s = .fault (.noSuchCell c.1) := by
  simp [execLoad, hb, loadCells_error hc]

end Sys2Proof.Machine

open Sys2Proof.Machine

/-- Settles O58: a step of a running block is a reset or what the block fetches, and with the load complete every
access to `CW` lies below `n`. -/
theorem runningBlockNeverStops : Obligations.RunningBlockNeverStops := fun _ => Inv.step_answers

/-- Settles O18. -/
theorem hostOutsideTheProtocolIsRefused : Obligations.HostOutsideTheProtocolIsRefused := fun s =>
  ⟨execLoad_of_busy, execStart_of_busy,
    fun hb hl => execStart_of_not_loaded hb (s.loaded_eq_false_iff.2 hl),
    fun hb _ _ _ _ hc => execLoad_of_noSuchCell hb hc⟩

end

section
/-! PROOFS. The encoding family: the arithmetic of the operand forms, what the decoder answers on the codewords left,
the value rows, and the step at a group. -/

namespace Sys2Proof.Machine

/-! ## Bytes -/

theorem toNat_byte {n : Nat} (h : n < 256) : (byte n).toNat = n := by
  rw [byte, BitVec.toNat_ofNat, Nat.mod_eq_of_lt h]

theorem byte_eq_iff {n : Nat} {w : Byte} (h : n < 256) : byte n = w ↔ w.toNat = n := by
  rw [← BitVec.toNat_inj, toNat_byte h, eq_comm]

/-! ## Pair numbers (R64, R68 (c)) -/

theorem pairNum_lt (w₁ w₂ : Byte) : pairNum w₁ w₂ < 65536 := by
  have h₁ := w₁.isLt
  have h₂ := w₂.isLt
  unfold pairNum
  omega

theorem pairNum_div (w₁ w₂ : Byte) : pairNum w₁ w₂ / 256 = w₁.toNat := by
  have h₂ := w₂.isLt
  unfold pairNum
  omega

theorem pairNum_mod (w₁ w₂ : Byte) : pairNum w₁ w₂ % 256 = w₂.toNat := by
  have h₂ := w₂.isLt
  unfold pairNum
  omega

/-- A pair is the codewords of its number. -/
theorem encodePair_pairNum (w₁ w₂ : Byte) : encodePair (pairNum w₁ w₂) = [w₁, w₂] := by
  have hhi : pairHi (pairNum w₁ w₂) = w₁ := (byte_eq_iff (pairNum_div w₁ w₂ ▸ w₁.isLt)).2 (pairNum_div w₁ w₂).symm
  have hlo : pairLo (pairNum w₁ w₂) = w₂ := (byte_eq_iff (Nat.mod_lt _ (by decide))).2 (pairNum_mod w₁ w₂).symm
  rw [encodePair, hhi, hlo]

theorem toNat_pairHi {num : Nat} (h : num < 65536) : (pairHi num).toNat = num / 256 := toNat_byte (by omega)

theorem pairNum_pairHi_pairLo {num : Nat} (h : num < 65536) : pairNum (pairHi num) (pairLo num) = num := by
  rw [pairNum, toNat_pairHi h, pairLo, toNat_byte (Nat.mod_lt _ (by decide)), Nat.div_add_mod]

theorem pairOf_pairABC {num : Nat} (h : 0 < num) : pairOf (pairA num) (pairB num) (pairC num) = num := by
  unfold pairOf pairA pairB pairC
  omega

theorem pairABC_pairOf (a : Nat) {b c : Nat} (hb : b ≤ 39) (hc : c ≤ 39) :
    pairA (pairOf a b c) = a ∧ pairB (pairOf a b c) = b ∧ pairC (pairOf a b c) = c := by
  unfold pairOf pairA pairB pairC
  omega

/-- The numbers up to 64000 are those of three values `0 .. 39`. -/
theorem pairABC_le {num : Nat} (h : num ≤ 64000) : pairA num ≤ 39 ∧ pairB num ≤ 39 ∧ pairC num ≤ 39 := by
  unfold pairA pairB pairC
  omega

theorem pairOf_range {a b c : Nat} (ha : a ≤ 39) (hb : b ≤ 39) (hc : c ≤ 39) :
    0 < pairOf a b c ∧ pairOf a b c ≤ 64000 := by
  unfold pairOf
  omega

/-! ## EDIFACT triples (R66, R68 (d)) -/

theorem edfWords_edfV (w₁ w₂ w₃ : Byte) :
    edfWords (edfV0 w₁) (edfV1 w₁ w₂) (edfV2 w₂ w₃) (edfV3 w₃) = [w₁, w₂, w₃] := by
  have h₁ := w₁.isLt
  have h₂ := w₂.isLt
  have h₃ := w₃.isLt
  simp only [edfWords, edfV0, edfV1, edfV2, edfV3, bits, List.cons.injEq, and_true]
  refine ⟨(byte_eq_iff ?_).2 ?_, (byte_eq_iff ?_).2 ?_, (byte_eq_iff ?_).2 ?_⟩ <;> omega

theorem edfV_edfWords {v₀ v₁ v₂ v₃ : Nat} (h₀ : v₀ ≤ 63) (h₁ : v₁ ≤ 63) (h₂ : v₂ ≤ 63) (h₃ : v₃ ≤ 63)
    {w₁ w₂ w₃ : Byte} (hw : edfWords v₀ v₁ v₂ v₃ = [w₁, w₂, w₃]) :
    edfV0 w₁ = v₀ ∧ edfV1 w₁ w₂ = v₁ ∧ edfV2 w₂ w₃ = v₂ ∧ edfV3 w₃ = v₃ := by
  simp only [edfWords, List.cons.injEq, and_true] at hw
  obtain ⟨rfl, rfl, rfl⟩ := hw
  simp only [edfV0, edfV1, edfV2, edfV3, bits]
  rw [toNat_byte, toNat_byte, toNat_byte] <;> omega

theorem edfV_le (w₁ w₂ w₃ : Byte) :
    edfV0 w₁ ≤ 63 ∧ edfV1 w₁ w₂ ≤ 63 ∧ edfV2 w₂ w₃ ≤ 63 ∧ edfV3 w₃ ≤ 63 := by
  simp only [edfV0, edfV1, edfV2, edfV3, bits]
  omega

/-! ## Base256 length bytes (R200, R201) -/

theorem randomize_unrand (w : Byte) (i : Nat) : randomize (unrand w i) i = w := BitVec.sub_add_cancel _ _

theorem unrand_randomize (d : Byte) (i : Nat) : unrand (randomize d i) i = d := BitVec.add_sub_cancel _ _

/-! ## The ranges of the group rows -/

theorem wf_asc (b : Nat) : (Instr.asc b).wf = true ↔ b ≤ 127 := by simp [Instr.wf]
theorem wf_dig (dd : Nat) : (Instr.dig dd).wf = true ↔ dd ≤ 99 := by simp [Instr.wf]
theorem wf_rsv233 (w : Byte) : (Instr.rsv233 w).wf = true ↔ 233 ≤ w.toNat ∧ w.toNat ≤ 234 := by simp [Instr.wf]
theorem wf_rsv236 (w : Byte) : (Instr.rsv236 w).wf = true ↔ 236 ≤ w.toNat ∧ w.toNat ≤ 237 := by simp [Instr.wf]
theorem wf_rsv242 (w : Byte) : (Instr.rsv242 w).wf = true ↔ 242 ≤ w.toNat ∧ w.toNat ≤ 255 := by simp [Instr.wf]
theorem wf_triC40 (a b c : Nat) : (Instr.triC40 a b c).wf = true ↔ a ≤ 39 ∧ b ≤ 39 ∧ c ≤ 39 := by
  simp [Instr.wf, and_assoc]
theorem wf_rsvPairHiC40 (num : Nat) :
    (Instr.rsvPairHiC40 num).wf = true ↔ 64001 ≤ num ∧ num ≤ 65535 ∧ num / 256 ≠ 254 := by
  simp [Instr.wf, and_assoc]
theorem wf_edf (v₀ v₁ v₂ v₃ : Nat) :
    (Instr.edf v₀ v₁ v₂ v₃).wf = true ↔ v₀ ≤ 63 ∧ v₁ ≤ 63 ∧ v₂ ≤ 63 ∧ v₃ ≤ 63 := by
  simp [Instr.wf, and_assoc]
theorem wf_b256L1 (d : Byte) : (Instr.b256L1 d).wf = true ↔ 1 ≤ d.toNat ∧ d.toNat ≤ 249 := by simp [Instr.wf]
theorem wf_b256L2 (d₀ : Byte) (d₁ : Option Byte) :
    (Instr.b256L2 d₀ d₁).wf = true ↔ 250 ≤ d₀.toNat ∧ d₀.toNat ≤ 255 := by simp [Instr.wf]

/-! ## What the codewords of a group must be (R74) -/

theorem fits_mac05 (idx : Nat) (w : Byte) (rest : List Byte) :
    Instr.mac05.fits idx (w :: rest) = true ↔ idx = 0 ∧ w = 236 := by
  change (idx == 0 && some w == some 236) = true ↔ _
  simp

theorem fits_mac06 (idx : Nat) (w : Byte) (rest : List Byte) :
    Instr.mac06.fits idx (w :: rest) = true ↔ idx = 0 ∧ w = 237 := by
  change (idx == 0 && some w == some 237) = true ↔ _
  simp

theorem fits_rsv236 (idx : Nat) (c w : Byte) (rest : List Byte) :
    (Instr.rsv236 c).fits idx (w :: rest) = true ↔ idx ≠ 0 ∧ w = c := by
  change (idx != 0 && some w == some c) = true ↔ _
  simp

theorem fits_eci (idx : Nat) (v : Option Byte) (w : Byte) (rest : List Byte) :
    (Instr.eci v).fits idx (w :: rest) = true ↔ w = 241 ∧ rest.head? = v := by
  change (some w == some 241 && rest.head? == v) = true ↔ _
  simp

theorem fits_pairShortC40 (idx : Nat) (w : Byte) (rest : List Byte) :
    Instr.pairShortC40.fits idx (w :: rest) = true ↔ rest = [] := by
  change ((w :: rest).length == 1) = true ↔ _
  simp

theorem fits_unlC40 (idx : Nat) (w : Byte) (rest : List Byte) :
    Instr.unlC40.fits idx (w :: rest) = true ↔ rest ≠ [] ∧ w = 254 := by
  change (decide (2 ≤ (w :: rest).length) && some w == some 254) = true ↔ _
  simp [Nat.one_le_iff_ne_zero]

theorem fits_edfShort (idx : Nat) (w : Byte) (rest : List Byte) :
    Instr.edfShort.fits idx (w :: rest) = true ↔ rest.length < 2 := by
  change ((w :: rest).length == 1 || (w :: rest).length == 2) = true ↔ _
  simp only [Bool.or_eq_true, beq_iff_eq, List.length_cons]
  omega

theorem fits_b256L2 (idx : Nat) (d₀ : Byte) (d₁ : Option Byte) (w : Byte) (rest : List Byte) :
    (Instr.b256L2 d₀ d₁).fits idx (w :: rest) = true ↔
      w = randomize d₀ idx ∧ (rest.head?.map fun d => unrand d (idx + 1)) = d₁ := by
  change (some w == some (randomize d₀ idx) && (rest.head?.map fun d => unrand d (idx + 1)) == d₁) = true ↔ _
  simp

/-- The row asks only that its own codewords come first, as every group row but those above does. -/
def AsksItsCodewords (i : Instr) : Prop :=
  ∀ idx ws, i.fits idx ws = (decide (encode idx i ≠ []) && (encode idx i).isPrefixOf ws)

theorem fits_cons_iff {i : Instr} {idx : Nat} {c w : Byte} {cs rest : List Byte} (he : encode idx i = c :: cs)
    (hi : AsksItsCodewords i := by exact fun _ _ => rfl) : i.fits idx (w :: rest) = true ↔ c = w ∧ cs <+: rest := by
  rw [hi, he]
  simp

/-- A row of one codeword fits where that codeword comes first. -/
theorem fits_codeword {i : Instr} {idx : Nat} {c w : Byte} {rest : List Byte} (hc : c = w)
    (he : encode idx i = [c] := by rfl) (hi : AsksItsCodewords i := by exact fun _ _ => rfl) :
    i.fits idx (w :: rest) = true := (fits_cons_iff he hi).2 ⟨hc, List.nil_prefix⟩

/-- A row fits where its codewords come first. -/
theorem fits_codewords {i : Instr} {idx : Nat} {w : Byte} {cs rest : List Byte} (hcs : cs <+: rest)
    (he : encode idx i = w :: cs) (hi : AsksItsCodewords i := by exact fun _ _ => rfl) :
    i.fits idx (w :: rest) = true := (fits_cons_iff he hi).2 ⟨rfl, hcs⟩

/-- The codeword of a fitting row of one codeword. -/
theorem codeword_of_fits {i : Instr} {idx : Nat} {c w : Byte} {rest : List Byte} (h : i.fits idx (w :: rest) = true)
    (he : encode idx i = [c]) (hi : AsksItsCodewords i := by exact fun _ _ => rfl) : c = w :=
  ((fits_cons_iff he hi).1 h).1

/-- No row fits where no codeword is left. -/
theorem fits_nil (idx : Nat) (i : Instr) : i.fits idx [] = false := by
  have own (hi : AsksItsCodewords i) : i.fits idx [] = false := by
    rw [hi]
    cases encode idx i <;> rfl
  cases i
  case mac05 | mac06 | rsv236 w => exact Bool.and_false _
  case eci | pairShortC40 | pairShortText | pairShortX12 | unlC40 | unlText | unlX12 | edfShort | b256L2 => rfl
  all_goals exact own fun _ _ => rfl

/-- The row `i` of mode `m` is one that the codewords `ws` left at `idx` may stand for (R74). -/
structure Selects (m : Mode) (idx : Nat) (ws : List Byte) (i : Instr) : Prop where
  wf : i.wf = true
  group : i.isGroup = true
  mode : i.mode = some m
  fits : i.fits idx ws = true

/-! ## ASCII (R61 to R63) -/

theorem decodeAscii_asc (idx : Nat) {w : Byte} (next : Option Byte) (h₁ : 1 ≤ w.toNat) (h₂ : w.toNat ≤ 128) :
    decodeAscii idx w next = .asc (w.toNat - 1) := by
  simp (disch := omega) only [decodeAscii, if_neg, if_pos]

theorem decodeAscii_dig (idx : Nat) {w : Byte} (next : Option Byte) (h₁ : 130 ≤ w.toNat) (h₂ : w.toNat ≤ 229) :
    decodeAscii idx w next = .dig (w.toNat - 130) := by
  simp (disch := omega) only [decodeAscii, if_neg, if_pos]

theorem decodeAscii_rsv233 (idx : Nat) {w : Byte} (next : Option Byte) (h₁ : 233 ≤ w.toNat) (h₂ : w.toNat ≤ 234) :
    decodeAscii idx w next = .rsv233 w := by
  simp (disch := omega) only [decodeAscii, if_neg, if_pos]

theorem decodeAscii_rsv236 {idx : Nat} (hidx : idx ≠ 0) {w : Byte} (next : Option Byte) (h₁ : 236 ≤ w.toNat)
    (h₂ : w.toNat ≤ 237) : decodeAscii idx w next = .rsv236 w := by
  rcases (by omega : w.toNat = 236 ∨ w.toNat = 237) with h | h <;>
    simp (disch := omega) only [decodeAscii, if_neg, if_pos]

theorem decodeAscii_rsv242 (idx : Nat) {w : Byte} (next : Option Byte) (h : 242 ≤ w.toNat) :
    decodeAscii idx w next = .rsv242 w := by
  simp (disch := omega) only [decodeAscii, if_neg]

theorem decodeAscii_selects (idx : Nat) (w : Byte) (rest : List Byte) :
    Selects .ascii idx (w :: rest) (decodeAscii idx w rest.head?) := by
  have hlt := w.isLt
  have code (c : Byte) (h : w.toNat = c.toNat) : c = w := (BitVec.eq_of_toNat_eq h).symm
  generalize hnext : rest.head? = next
  fun_cases decodeAscii
  · exact ⟨rfl, rfl, rfl, fits_codeword (code 0 ‹_›)⟩
  · have hw : byte (w.toNat - 1 + 1) = w := (byte_eq_iff (by omega)).2 (by omega)
    exact ⟨(wf_asc _).2 (by omega), rfl, rfl, fits_codeword hw⟩
  · exact ⟨rfl, rfl, rfl, fits_codeword (code 129 ‹_›)⟩
  · have hw : byte (130 + (w.toNat - 130)) = w := (byte_eq_iff (by omega)).2 (by omega)
    exact ⟨(wf_dig _).2 (by omega), rfl, rfl, fits_codeword hw⟩
  · exact ⟨rfl, rfl, rfl, fits_codeword (code 230 ‹_›)⟩
  · exact ⟨rfl, rfl, rfl, fits_codeword (code 231 ‹_›)⟩
  · exact ⟨rfl, rfl, rfl, fits_codeword (code 232 ‹_›)⟩
  · exact ⟨(wf_rsv233 w).2 (by omega), rfl, rfl, fits_codeword rfl⟩
  · exact ⟨rfl, rfl, rfl, fits_codeword (code 235 ‹_›)⟩
  · exact ⟨rfl, rfl, rfl, (fits_mac05 ..).2 ⟨‹_›, (code 236 ‹_›).symm⟩⟩
  · exact ⟨(wf_rsv236 w).2 (by omega), rfl, rfl, (fits_rsv236 ..).2 ⟨‹_›, rfl⟩⟩
  · exact ⟨rfl, rfl, rfl, (fits_mac06 ..).2 ⟨‹_›, (code 237 ‹_›).symm⟩⟩
  · exact ⟨(wf_rsv236 w).2 (by omega), rfl, rfl, (fits_rsv236 ..).2 ⟨‹_›, rfl⟩⟩
  · exact ⟨rfl, rfl, rfl, fits_codeword (code 238 ‹_›)⟩
  · exact ⟨rfl, rfl, rfl, fits_codeword (code 239 ‹_›)⟩
  · exact ⟨rfl, rfl, rfl, fits_codeword (code 240 ‹_›)⟩
  · exact ⟨rfl, rfl, rfl, (fits_eci ..).2 ⟨(code 241 ‹_›).symm, hnext⟩⟩
  · exact ⟨(wf_rsv242 w).2 (by omega), rfl, rfl, fits_codeword rfl⟩

theorem decodeAscii_of_selects {idx : Nat} {w : Byte} {rest : List Byte} {i : Instr}
    (h : Selects .ascii idx (w :: rest) i) : decodeAscii idx w rest.head? = i := by
  obtain ⟨hwf, -, hm, hfits⟩ := h
  cases i <;> cases hm
  case rsv0 | pad | lc40 | lb256 | fnc1 | ush | lx12 | ltxt | ledf => cases codeword_of_fits hfits rfl; rfl
  case asc b =>
    have hb := (wf_asc b).1 hwf
    have hw : w.toNat = b + 1 := (byte_eq_iff (by omega)).1 (codeword_of_fits hfits rfl)
    rw [decodeAscii_asc _ _ (by omega) (by omega), hw, Nat.add_sub_cancel]
  case dig dd =>
    have hdd := (wf_dig dd).1 hwf
    have hw : w.toNat = 130 + dd := (byte_eq_iff (by omega)).1 (codeword_of_fits hfits rfl)
    rw [decodeAscii_dig _ _ (by omega) (by omega), hw, Nat.add_sub_cancel_left]
  case rsv233 =>
    cases codeword_of_fits hfits rfl
    obtain ⟨hlo, hhi⟩ := (wf_rsv233 w).1 hwf
    exact decodeAscii_rsv233 idx _ hlo hhi
  case mac05 => obtain ⟨rfl, rfl⟩ := (fits_mac05 ..).1 hfits; rfl
  case mac06 => obtain ⟨rfl, rfl⟩ := (fits_mac06 ..).1 hfits; rfl
  case rsv236 =>
    obtain ⟨hidx, rfl⟩ := (fits_rsv236 ..).1 hfits
    obtain ⟨hlo, hhi⟩ := (wf_rsv236 w).1 hwf
    exact decodeAscii_rsv236 hidx _ hlo hhi
  case eci v => obtain ⟨rfl, rfl⟩ := (fits_eci ..).1 hfits; rfl
  case rsv242 =>
    cases codeword_of_fits hfits rfl
    exact decodeAscii_rsv242 idx _ ((wf_rsv242 w).1 hwf).1

/-! ## The pairs of C40, Text and X12 (R64, R65, R160) -/

/-- The rows of Text are selected as those of C40. -/
theorem selects_text_iff {idx : Nat} {ws : List Byte} (f : PairForm) :
    Selects .text idx ws f.text ↔ Selects .c40 idx ws f.c40 := by
  cases f <;> exact ⟨fun h => ⟨h.wf, rfl, rfl, h.fits⟩, fun h => ⟨h.wf, rfl, rfl, h.fits⟩⟩

/-- The rows of X12 are selected as those of C40. -/
theorem selects_x12_iff {idx : Nat} {ws : List Byte} (f : PairForm) :
    Selects .x12 idx ws f.x12 ↔ Selects .c40 idx ws f.c40 := by
  cases f <;> exact ⟨fun h => ⟨h.wf, rfl, rfl, h.fits⟩, fun h => ⟨h.wf, rfl, rfl, h.fits⟩⟩

theorem exists_form_c40 {i : Instr} (hg : i.isGroup = true) (hm : i.mode = some .c40) : ∃ f : PairForm, f.c40 = i := by
  cases i <;> cases hm
  case pairShortC40 => exact ⟨.short, rfl⟩
  case unlC40 => exact ⟨.unl, rfl⟩
  case rsvPair0C40 => exact ⟨.pair0, rfl⟩
  case triC40 a b c => exact ⟨.tri a b c, rfl⟩
  case rsvPairHiC40 num => exact ⟨.pairHi num, rfl⟩
  all_goals cases hg

theorem exists_form_text {i : Instr} (hg : i.isGroup = true) (hm : i.mode = some .text) :
    ∃ f : PairForm, f.text = i := by
  cases i <;> cases hm
  case pairShortText => exact ⟨.short, rfl⟩
  case unlText => exact ⟨.unl, rfl⟩
  case rsvPair0Text => exact ⟨.pair0, rfl⟩
  case triText a b c => exact ⟨.tri a b c, rfl⟩
  case rsvPairHiText num => exact ⟨.pairHi num, rfl⟩
  all_goals cases hg

theorem exists_form_x12 {i : Instr} (hg : i.isGroup = true) (hm : i.mode = some .x12) : ∃ f : PairForm, f.x12 = i := by
  cases i <;> cases hm
  case pairShortX12 => exact ⟨.short, rfl⟩
  case unlX12 => exact ⟨.unl, rfl⟩
  case rsvPair0X12 => exact ⟨.pair0, rfl⟩
  case triX12 a b c => exact ⟨.tri a b c, rfl⟩
  case rsvPairHiX12 num => exact ⟨.pairHi num, rfl⟩
  all_goals cases hg

theorem decodePairForm_selects (idx : Nat) (w : Byte) (rest : List Byte) :
    Selects .c40 idx (w :: rest) (decodePairForm w rest.head?).c40 := by
  cases rest with
  | nil => exact ⟨rfl, rfl, rfl, rfl⟩
  | cons w₂ rest =>
    have hcw := encodePair_pairNum w w₂
    have hsecond : [w₂] <+: w₂ :: rest := ⟨rest, rfl⟩
    simp only [List.head?_cons, decodePairForm]
    split_ifs with hunl hzero hle
    · exact ⟨rfl, rfl, rfl, (fits_unlC40 ..).2 ⟨List.cons_ne_nil _ _, BitVec.eq_of_toNat_eq hunl⟩⟩
    · rw [hzero] at hcw
      exact ⟨rfl, rfl, rfl, fits_codewords hsecond hcw⟩
    · rw [← pairOf_pairABC (Nat.pos_of_ne_zero hzero)] at hcw
      exact ⟨(wf_triC40 ..).2 (pairABC_le hle), rfl, rfl, fits_codewords hsecond hcw⟩
    · have hlt := pairNum_lt w w₂
      exact ⟨(wf_rsvPairHiC40 _).2 ⟨by omega, by omega, by rwa [pairNum_div]⟩, rfl, rfl, fits_codewords hsecond hcw⟩

/-- A pair whose first codeword is not the unlatch is read by its number (R163, R175). -/
theorem decodePairForm_encodePair {num : Nat} (hlt : num < 65536) (hunl : num / 256 ≠ 254) :
    decodePairForm (pairHi num) (some (pairLo num)) =
      if num = 0 then .pair0 else if num ≤ 64000 then .tri (pairA num) (pairB num) (pairC num) else .pairHi num := by
  rw [decodePairForm, toNat_pairHi hlt, if_neg hunl, pairNum_pairHi_pairLo hlt]

theorem decodePairForm_of_selects {idx : Nat} {w : Byte} {rest : List Byte} {f : PairForm}
    (h : Selects .c40 idx (w :: rest) f.c40) : decodePairForm w rest.head? = f := by
  have ⟨hwf, _, _, hfits⟩ := h
  cases f with
  | short => cases (fits_pairShortC40 ..).1 hfits; rfl
  | unl =>
    obtain ⟨hrest, rfl⟩ := (fits_unlC40 ..).1 hfits
    obtain ⟨w₂, rest, rfl⟩ := List.exists_cons_of_ne_nil hrest
    rfl
  | pair0 =>
    obtain ⟨rfl, rest, rfl⟩ := (fits_cons_iff rfl).1 hfits
    rfl
  | tri a b c =>
    obtain ⟨ha, hb, hc⟩ := (wf_triC40 ..).1 hwf
    obtain ⟨hpos, hle⟩ := pairOf_range ha hb hc
    obtain ⟨hA, hB, hC⟩ := pairABC_pairOf a hb hc
    obtain ⟨rfl, rest, rfl⟩ := (fits_cons_iff rfl).1 hfits
    refine (decodePairForm_encodePair (num := pairOf a b c) (by omega) (by omega)).trans ?_
    rw [if_neg (by omega), if_pos hle, hA, hB, hC]
  | pairHi num =>
    obtain ⟨hlo, hhi, hunl⟩ := (wf_rsvPairHiC40 num).1 hwf
    obtain ⟨rfl, rest, rfl⟩ := (fits_cons_iff rfl).1 hfits
    refine (decodePairForm_encodePair (by omega) hunl).trans ?_
    rw [if_neg (by omega), if_neg (by omega)]

/-! ## EDIFACT (R66, R190) -/

theorem decodeEdifact_selects (idx : Nat) (w : Byte) (rest : List Byte) :
    Selects .edifact idx (w :: rest) (decodeEdifact w rest) := by
  match rest with
  | [] => exact ⟨rfl, rfl, rfl, rfl⟩
  | [_] => exact ⟨rfl, rfl, rfl, rfl⟩
  | w₂ :: w₃ :: rest =>
    exact ⟨(wf_edf ..).2 (edfV_le w w₂ w₃), rfl, rfl, fits_codewords ⟨rest, rfl⟩ (edfWords_edfV w w₂ w₃)⟩

theorem decodeEdifact_of_selects {idx : Nat} {w : Byte} {rest : List Byte} {i : Instr}
    (h : Selects .edifact idx (w :: rest) i) : decodeEdifact w rest = i := by
  obtain ⟨hwf, hg, hm, hfits⟩ := h
  cases i <;> cases hm
  case edfShort =>
    have hlen := (fits_edfShort ..).1 hfits
    match rest with
    | [] => rfl
    | [_] => rfl
    | _ :: _ :: _ => simp at hlen
  case edf v₀ v₁ v₂ v₃ =>
    obtain ⟨h₀, h₁, h₂, h₃⟩ := (wf_edf ..).1 hwf
    obtain ⟨rfl, rest, rfl⟩ := (fits_cons_iff rfl).1 hfits
    obtain ⟨hv₀, hv₁, hv₂, hv₃⟩ := edfV_edfWords h₀ h₁ h₂ h₃ rfl
    change Instr.edf _ _ _ _ = _
    rw [hv₀, hv₁, hv₂, hv₃]
  all_goals cases hg

/-! ## Base256 (R67, R202, R203) -/

theorem decodeBase256_selects (idx : Nat) (w : Byte) (rest : List Byte) :
    Selects .base256 idx (w :: rest) (decodeBase256 idx w rest.head?) := by
  have hlt := (unrand w idx).isLt
  have hw := randomize_unrand w idx
  unfold decodeBase256
  split_ifs with hzero hone
  · have hd : unrand w idx = 0 := BitVec.eq_of_toNat_eq hzero
    exact ⟨rfl, rfl, rfl, fits_codeword (hd ▸ hw)⟩
  · exact ⟨(wf_b256L1 _).2 (by omega), rfl, rfl, fits_codeword hw⟩
  · exact ⟨(wf_b256L2 ..).2 (by omega), rfl, rfl, (fits_b256L2 ..).2 ⟨hw.symm, rfl⟩⟩

theorem decodeBase256_of_selects {idx : Nat} {w : Byte} {rest : List Byte} {i : Instr}
    (h : Selects .base256 idx (w :: rest) i) : decodeBase256 idx w rest.head? = i := by
  obtain ⟨hwf, hg, hm, hfits⟩ := h
  cases i <;> cases hm
  case b256L0 =>
    obtain rfl := codeword_of_fits hfits rfl
    rw [decodeBase256, unrand_randomize]
    rfl
  case b256L1 d =>
    obtain rfl := codeword_of_fits hfits rfl
    obtain ⟨hlo, hhi⟩ := (wf_b256L1 d).1 hwf
    rw [decodeBase256, unrand_randomize, if_neg (by omega), if_pos hhi]
  case b256L2 d₀ d₁ =>
    obtain ⟨rfl, rfl⟩ := (fits_b256L2 ..).1 hfits
    obtain ⟨hlo, -⟩ := (wf_b256L2 d₀ _).1 hwf
    rw [decodeBase256, unrand_randomize, if_neg (by omega), if_neg (by omega)]

/-! ## The decoder reads exactly the selected row (R60, R74) -/

theorem groupRow_selects (m : Mode) (idx : Nat) (w : Byte) (rest : List Byte) :
    Selects m idx (w :: rest) (groupRow m idx w rest) := by
  cases m with
  | ascii => exact decodeAscii_selects idx w rest
  | c40 => exact decodePairForm_selects idx w rest
  | text => exact (selects_text_iff _).2 (decodePairForm_selects idx w rest)
  | x12 => exact (selects_x12_iff _).2 (decodePairForm_selects idx w rest)
  | edifact => exact decodeEdifact_selects idx w rest
  | base256 => exact decodeBase256_selects idx w rest

theorem groupRow_of_selects {m : Mode} {idx : Nat} {w : Byte} {rest : List Byte} {i : Instr}
    (h : Selects m idx (w :: rest) i) : groupRow m idx w rest = i := by
  cases m with
  | ascii => exact decodeAscii_of_selects h
  | c40 =>
    obtain ⟨f, rfl⟩ := exists_form_c40 h.group h.mode
    exact congrArg PairForm.c40 (decodePairForm_of_selects h)
  | text =>
    obtain ⟨f, rfl⟩ := exists_form_text h.group h.mode
    exact congrArg PairForm.text (decodePairForm_of_selects ((selects_text_iff f).1 h))
  | x12 =>
    obtain ⟨f, rfl⟩ := exists_form_x12 h.group h.mode
    exact congrArg PairForm.x12 (decodePairForm_of_selects ((selects_x12_iff f).1 h))
  | edifact => exact decodeEdifact_of_selects h
  | base256 => exact decodeBase256_of_selects h

/-- On all the codewords left the decoder answers the row of the first ones. -/
theorem decodeGroup_cons (m : Mode) (idx : Nat) (w : Byte) (rest : List Byte) :
    decodeGroup m idx (w :: rest).length (w :: rest) = .ok (groupRow m idx w rest) := by
  have hleft : (w :: rest).length ≠ 0 := Nat.succ_ne_zero _
  have hgiven : ¬ (w :: rest).length < min (w :: rest).length 3 := by omega
  rw [decodeGroup, if_neg hleft, if_neg hgiven, List.take_length]
  cases m <;> rfl

theorem decodeGroup_ok_iff_selects {m : Mode} {idx : Nat} {ws : List Byte} {i : Instr} :
    decodeGroup m idx ws.length ws = .ok i ↔ Selects m idx ws i := by
  cases ws with
  | nil => exact ⟨nofun, fun h => absurd h.fits (by simp [fits_nil])⟩
  | cons w rest =>
    rw [decodeGroup_cons, Except.ok.injEq]
    exact ⟨fun h => h ▸ groupRow_selects m idx w rest, groupRow_of_selects⟩

/-! ## The value rows (R69, R164, R174, R176) -/

theorem decodeC40Value_of_row {i : Instr} {ss : ShiftSet} {v : Nat} (hwf : i.wf = true) (hv : encodeValue i = some v)
    (hm : i.mode = some .c40) (hs : i.shiftSet = some ss) : v ≤ 39 ∧ decodeC40Value ss v = i := by
  cases i <;> cases hm <;> cases hv <;> cases hs
  case sh1C40 | sh2C40 | sh3C40 | vSpC40 | vS2fnc1C40 | vS2ushC40 => exact ⟨by decide, rfl⟩
  all_goals
    simp only [Instr.wf, Bool.and_eq_true, decide_eq_true_eq] at hwf
    simp (disch := omega) only [decodeC40Value, if_pos, if_neg, and_true]
    omega

theorem decodeTextValue_of_row {i : Instr} {ss : ShiftSet} {v : Nat} (hwf : i.wf = true) (hv : encodeValue i = some v)
    (hm : i.mode = some .text) (hs : i.shiftSet = some ss) : v ≤ 39 ∧ decodeTextValue ss v = i := by
  cases i <;> cases hm <;> cases hv <;> cases hs
  case sh1Text | sh2Text | sh3Text | vSpText | vS2fnc1Text | vS2ushText | vS3graveText => exact ⟨by decide, rfl⟩
  all_goals
    simp only [Instr.wf, Bool.and_eq_true, decide_eq_true_eq] at hwf
    simp (disch := omega) only [decodeTextValue, if_pos, if_neg, and_true]
    omega

theorem decodeX12Value_of_row {i : Instr} {v : Nat} (hwf : i.wf = true) (hv : encodeValue i = some v)
    (hm : i.mode = some .x12) : v ≤ 39 ∧ decodeX12Value v = i := by
  cases i <;> cases hm <;> cases hv
  case xCr | xStar | xGt | xSp => exact ⟨by decide, rfl⟩
  all_goals
    simp only [Instr.wf, Bool.and_eq_true, decide_eq_true_eq] at hwf
    simp (disch := omega) only [decodeX12Value, if_pos, if_neg, and_true]
    omega

/-- The ranges of a value's rows meet without a gap, so the row it decodes to is well-formed. -/
theorem decodeC40Value_row (ss : ShiftSet) {v : Nat} (h : v ≤ 39) :
    (decodeC40Value ss v).wf = true ∧ encodeValue (decodeC40Value ss v) = some v := by
  fun_cases decodeC40Value
  all_goals subst_vars; exact ⟨by simp [Instr.wf] <;> omega, rfl⟩

theorem decodeTextValue_row (ss : ShiftSet) {v : Nat} (h : v ≤ 39) :
    (decodeTextValue ss v).wf = true ∧ encodeValue (decodeTextValue ss v) = some v := by
  fun_cases decodeTextValue
  all_goals subst_vars; exact ⟨by simp [Instr.wf] <;> omega, rfl⟩

theorem decodeX12Value_row {v : Nat} (h : v ≤ 39) :
    (decodeX12Value v).wf = true ∧ encodeValue (decodeX12Value v) = some v := by
  fun_cases decodeX12Value
  all_goals subst_vars; exact ⟨by simp [Instr.wf] <;> omega, rfl⟩

theorem decodeValue_of_le {v : Nat} (h : v ≤ 39) (ss : ShiftSet) :
    decodeValue .c40 ss v = .ok (decodeC40Value ss v) ∧ decodeValue .text ss v = .ok (decodeTextValue ss v) ∧
    decodeValue .x12 ss v = .ok (decodeX12Value v) := by
  simp [decodeValue, Nat.not_lt.2 h]

/-- Every C40 or Text value row has its shift set. -/
theorem shiftSet_ne_none {i : Instr} {v : Nat} (hv : encodeValue i = some v)
    (hm : i.mode = some .c40 ∨ i.mode = some .text) : i.shiftSet ≠ none := by
  rcases hm with hm | hm <;> cases i <;> cases hm <;> cases hv <;> nofun

theorem decodeValue_of_row {i : Instr} {m : Mode} {ss : ShiftSet} {v : Nat} (hwf : i.wf = true)
    (hv : encodeValue i = some v) (hm : i.mode = some m) (hne : m ≠ .edifact)
    (hs : i.shiftSet = some ss ∨ i.shiftSet = none) : decodeValue m ss v = .ok i := by
  cases m with
  | ascii | base256 => cases i <;> cases hm <;> cases hv
  | edifact => exact absurd rfl hne
  | c40 =>
    obtain ⟨hle, rfl⟩ := decodeC40Value_of_row hwf hv hm (hs.resolve_right (shiftSet_ne_none hv (.inl hm)))
    exact (decodeValue_of_le hle ss).1
  | text =>
    obtain ⟨hle, rfl⟩ := decodeTextValue_of_row hwf hv hm (hs.resolve_right (shiftSet_ne_none hv (.inr hm)))
    exact (decodeValue_of_le hle ss).2.1
  | x12 =>
    obtain ⟨hle, rfl⟩ := decodeX12Value_of_row hwf hv hm
    exact (decodeValue_of_le hle ss).2.2

theorem decodeValue_row {m : Mode} (ss : ShiftSet) {v : Nat} (hm : m = .c40 ∨ m = .text ∨ m = .x12) (hv : v ≤ 39) :
    ∃ i, decodeValue m ss v = .ok i ∧ i.wf = true ∧ encodeValue i = some v := by
  obtain ⟨hc40, htext, hx12⟩ := decodeValue_of_le hv ss
  rcases hm with rfl | rfl | rfl
  · exact ⟨_, hc40, decodeC40Value_row ss hv⟩
  · exact ⟨_, htext, decodeTextValue_row ss hv⟩
  · exact ⟨_, hx12, decodeX12Value_row hv⟩

/-! ## The EDIFACT values (R194, R195) -/

theorem decodeEdfValue_eLow (j : Nat) {v : Nat} (h : v ≤ 30) : decodeEdfValue j v = .ok (.eLow v) := by
  rw [decodeEdfValue, if_neg (by omega), if_pos h]

theorem decodeEdfValue_eUnl (j : Nat) : decodeEdfValue j 31 = .ok (.eUnl j) := rfl

theorem decodeEdfValue_eHigh (j : Nat) {v : Nat} (h₁ : 32 ≤ v) (h₂ : v ≤ 63) :
    decodeEdfValue j v = .ok (.eHigh v) := by
  rw [decodeEdfValue, if_neg (by omega), if_neg (by omega), if_neg (by omega)]

theorem decodeEdfValue_row {j v : Nat} (hj : j ≤ 3) (hv : v ≤ 63) :
    ∃ i, decodeEdfValue j v = .ok i ∧ i.wf = true ∧ encodeValue i = some v := by
  rcases (by omega : v ≤ 30 ∨ v = 31 ∨ 32 ≤ v) with h | rfl | h
  · exact ⟨.eLow v, decodeEdfValue_eLow j h, by simp [Instr.wf, h], rfl⟩
  · exact ⟨.eUnl j, decodeEdfValue_eUnl j, by simp [Instr.wf, hj], rfl⟩
  · exact ⟨.eHigh v, decodeEdfValue_eHigh j h hv, by simp [Instr.wf, h, hv], rfl⟩

/-! ## The step at a group (R88, R131, R133) -/

/-- The fetch reads the at most three codewords left, which lie below `DW`, and decodes them. -/
theorem fetchGroup_of_holds {s : State} {ws : List Byte} {i : Instr} (hlen : ws.length = min (s.dw - s.idx) 3)
    (hws : Holds s s.idx ws) (hdec : decodeGroup s.mode s.idx (s.dw - s.idx) ws = .ok i) : fetchGroup s = .ok i := by
  have hread : readRun s.idx (min (s.dw - s.idx) 3) s = .ok ws :=
    readRun_ok.2 ⟨hlen, fun _ => by rw [State.n]; omega, hws⟩
  rw [fetchGroup, hread]
  simp only [hdec]

theorem blockTurn_of_group {s : State} {i : Instr} (hp : s.phase = .payload) (hu : s.upc = .group)
    (hf : fetchGroup s = .ok i) : blockTurn s = .run i s := by
  have hfetch : fetch s = .ok i := by rw [fetch, hu, hf]
  rw [blockTurn, if_pos (busy_of_payload hp), hfetch]

/-- A running block that the host leaves alone takes its own turn: LOAD and START wait (R231). -/
theorem nextTurn_of_quiet {s : State} (hq : s.hostQuiet = true) (hb : s.busy = true) : nextTurn s = blockTurn s := by
  unfold State.hostQuiet at hq
  rcases nextTurn_cases s with ⟨q, h, -⟩ | ⟨q, h, -⟩ | ⟨_, _, _, _, -, hidle, -⟩ | ⟨_, -, hidle, -⟩ | h
  · simp [h] at hq
  · simp [h] at hq
  · cases hb.symm.trans hidle
  · cases hb.symm.trans hidle
  · exact h

theorem nextTurn_of_wait {s : State} {q : List HostEvent} (h : s.host = .wait :: q) :
    nextTurn s = blockTurn (withHost q s) := by
  rw [nextTurn, h]

end Sys2Proof.Machine

open Sys2Proof.Machine

/-- Settles O6: in every mode the decoder reads exactly the row that the codewords left select. -/
theorem groupsDecodeAsEncoded : Obligations.GroupsDecodeAsEncoded := fun _ _ _ _ hwf hgroup hmode hfits =>
  decodeGroup_ok_iff_selects.2 ⟨hwf, hgroup, hmode, hfits⟩

/-- Settles O7: the other direction of the same equivalence. -/
theorem decodedGroupsAreWellFormed : Obligations.DecodedGroupsAreWellFormed := fun _ _ _ _ h =>
  have ⟨hwf, hgroup, hmode, hfits⟩ := decodeGroup_ok_iff_selects.1 h
  ⟨hwf, hgroup, hmode, hfits⟩

/-- Settles O9. -/
theorem valuesDecodeAsEncoded : Obligations.ValuesDecodeAsEncoded :=
  ⟨fun _ _ _ _ => decodeValue_of_row, fun _ ss _ => decodeValue_row ss, fun _ _ => decodeEdfValue_row,
    fun j _ => decodeEdfValue_eLow j, decodeEdfValue_eUnl, fun j _ => decodeEdfValue_eHigh j⟩

/-- Settles O8. -/
theorem everyNonEmptyDataRegionDecodes : Obligations.EveryNonEmptyDataRegionDecodes := fun m idx ws hne => by
  obtain ⟨w, rest, rfl⟩ := List.exists_cons_of_ne_nil hne
  exact ⟨_, decodeGroup_cons m idx w rest⟩

/-- Settles O10: fourteen fixed streams, evaluated. -/
theorem writtenOutCodewordsDecode : Obligations.WrittenOutCodewordsDecode := by
  unfold Obligations.WrittenOutCodewordsDecode
  decide

/-- Settles O12: the fetch at a group reads and decodes the codewords left, with a `wait` of the host removed first. -/
theorem stepRunsTheDecodedGroup : Obligations.StepRunsTheDecodedGroup := by
  intro s ws i hp hu hlen hws hdec _
  constructor
  · intro hq
    rw [step_eq_outcome, nextTurn_of_quiet hq (busy_of_payload hp),
      blockTurn_of_group hp hu (fetchGroup_of_holds hlen hws hdec)]
    rfl
  · intro q hq
    have hf : fetchGroup (withHost q s) = .ok i := fetchGroup_of_holds (s := withHost q s) hlen hws hdec
    rw [step_eq_outcome, nextTurn_of_wait hq, blockTurn_of_group (s := withHost q s) hp hu hf]
    rfl

end

section
/-! PROOFS. The transaction family: the host's events in IDLE and DONE, the order of the micro-operations, and that
every transaction ends. -/

namespace Sys2Proof.Machine

/-! ## The host's events (R80, R81, R230, R231) -/

theorem nextTurn_of_reset {s : State} {q : List HostEvent} (h : s.host = .reset :: q) :
    nextTurn s = .settled (withHost q State.reset) := by
  rw [nextTurn, h]

theorem nextTurn_of_load {s : State} {dw ew : Option Nat} {cells : List Host.Cell} {q : List HostEvent}
    (hb : s.busy = false) (h : s.host = .load dw ew cells :: q) :
    nextTurn s = .run (.load dw ew cells) (withHost q s) := by
  simp [nextTurn, h, hb]

theorem nextTurn_of_start {s : State} {q : List HostEvent} (hb : s.busy = false) (h : s.host = .start :: q) :
    nextTurn s = .run .start (withHost q s) := by
  simp [nextTurn, h, hb]

theorem blockTurn_of_not_busy {s : State} (hb : s.busy = false) : blockTurn s = .settled s := by
  simp [blockTurn, hb]

/-! ## LOAD of a stream (R80) -/

/-- Where a LOAD names every cell once, each named cell reads as given. -/
theorem Mem.read_writeAll_of_mem {cells : List Host.Cell} {c : Host.Cell}
    (hdistinct : cells.Pairwise fun p q => p.1 ≠ q.1) (hc : c ∈ cells) (m : Mem) :
    (cells.foldl (fun m c => m.write c.1 c.2) m).read c.1 = some c.2 := by
  induction cells generalizing m with
  | nil => cases hc
  | cons d cells ih =>
    obtain ⟨hd, hrest⟩ := List.pairwise_cons.1 hdistinct
    rcases List.mem_cons.1 hc with rfl | hc
    · rw [List.foldl_cons, Mem.read_writeAll_of_not_mem fun e he => (hd e he).symm]
      exact Mem.read_write_self m c.1 c.2
    · exact ih hrest hc _

/-- A LOAD of cells that exist writes them and what else it names. -/
theorem execLoad_of_cells {s : State} (hb : s.busy = false) {dw ew : Option Nat} {cells : List Host.Cell}
    (hcells : ∀ c ∈ cells, c.1 < dw.getD s.dw + ew.getD s.ew) :
    execLoad dw ew cells s = .next { s with
      dw := dw.getD s.dw, ew := ew.getD s.ew, dwLoaded := s.dwLoaded || dw.isSome,
      ewLoaded := s.ewLoaded || ew.isSome, cw := cells.foldl (fun m c => m.write c.1 c.2) s.cw } := by
  simp [execLoad, hb, loadCells_ok hcells]

/-- The cells of a stream are its Bytes, each at its own index. -/
theorem mem_streamCells {ws : List Byte} {c : Host.Cell} : c ∈ streamCells ws ↔ ws[c.1]? = some c.2 := by
  constructor
  · intro h
    obtain ⟨k, hk⟩ := List.mem_iff_getElem?.1 h
    obtain ⟨hidx, hbyte⟩ := List.getElem?_zip_eq_some.1 hk
    obtain ⟨-, rfl⟩ : k < ws.length ∧ k = c.1 := by simpa [List.getElem?_eq_some_iff] using hidx
    exact hbyte
  · intro h
    have hlt : c.1 < ws.length := (List.getElem?_eq_some_iff.1 h).1
    exact List.mem_of_getElem? (i := c.1) (List.getElem?_zip_eq_some.2 ⟨List.getElem?_range hlt, h⟩)

theorem lt_length_of_mem_streamCells {ws : List Byte} {c : Host.Cell} (h : c ∈ streamCells ws) :
    c.1 < ws.length :=
  (List.getElem?_eq_some_iff.1 (mem_streamCells.1 h)).1

theorem streamCells_distinct (ws : List Byte) : (streamCells ws).Pairwise fun p q => p.1 ≠ q.1 := by
  have hfst : (streamCells ws).map Prod.fst = List.range ws.length := List.map_fst_zip (by simp)
  exact List.pairwise_map.1 (hfst ▸ List.nodup_range)

/-! ## START (R81) -/

theorem execStart_of_loaded {s : State} (hb : s.busy = false) (hl : s.loaded = true) :
    execStart s = .next { s with olen := 0, cause := .none, fidx := 0, phase := .rs, upc := .rsSynd } := by
  simp [execStart, hb, hl]

/-! ## SEQ.BRANCH (R83) -/

theorem execSeqBranch_of_unrecoverable {s : State} (h : s.rsstat = .unrecoverable) :
    execSeqBranch s = .next { s with result := .rsFail, phase := .done } := by
  rw [execSeqBranch, h]

theorem execSeqBranch_of_passed {s : State} (h : s.rsstat = .ok ∨ s.rsstat = .repaired) :
    execSeqBranch s = .next { s with phase := .payload, upc := .plInit } := by
  rcases h with h | h <;> rw [execSeqBranch, h]

/-- What SEQ.BRANCH can do. -/
theorem execSeqBranch_next {s t : State} (h : execSeqBranch s = .next t) :
    t = { s with result := .rsFail, phase := .done } ∨ t = { s with phase := .payload, upc := .plInit } := by
  unfold execSeqBranch at h
  split at h <;> cases h
  · exact .inl rfl
  · exact .inr rfl
  · exact .inr rfl

/-! ## The order of the RS phase (R82, R110) -/

/-- A running block that the host leaves alone runs the micro-operation at the sequencer position. -/
theorem step_of_micro {s : State} {i : Instr} (hi : s.upc.instr = some i) (hb : s.busy = true)
    (hq : s.hostQuiet = true) : step s = exec i s := by
  rw [step_eq_outcome, nextTurn_of_quiet hq hb, blockTurn, if_pos hb, fetch_of_instr hi]
  rfl

/-- From `s` to `t` a micro-operation of the RS phase ran that goes on with one of `us`: it touches nothing but `CW`,
the working registers of the RS phase and the sequencer position. -/
structure RsGoes (us : List Micro) (s t : State) : Prop where
  upc_mem : t.upc ∈ us
  frame : t = { s with
    cw := t.cw, synd := t.synd, sig := t.sig, nroot := t.nroot, loc := t.loc, y := t.y, rsstat := t.rsstat,
    upc := t.upc }

theorem RsGoes.upc_eq {u : Micro} {s t : State} (h : RsGoes [u] s t) : t.upc = u := List.mem_singleton.1 h.upc_mem

theorem execRsSynd_goes {s t : State} (h : execRsSynd s = .next t) : RsGoes [.rsZero] s t := by
  unfold execRsSynd at h
  split at h <;> cases h
  exact ⟨by simp, rfl⟩

/-- With no syndrome to repair the RS phase is left (R118). -/
theorem execRsZero_goes {s t : State} (h : execRsZero s = .next t) : RsGoes [.seqBranch, .rsLoc] s t := by
  unfold execRsZero at h
  split at h <;> cases h <;> exact ⟨by simp, rfl⟩

/-- A raised UNRECOVERABLE leaves the RS phase (R120, R215). -/
theorem execRsLoc_goes {s t : State} (h : execRsLoc s = .next t) : RsGoes [.seqBranch, .rsChien] s t := by
  unfold execRsLoc at h
  split at h <;> cases h <;> exact ⟨by simp [raiseUnrecoverable], rfl⟩

theorem execRsChien_goes {s t : State} (h : execRsChien s = .next t) : RsGoes [.rsCount] s t := by
  cases h
  exact ⟨by simp, rfl⟩

theorem execRsCount_goes {s t : State} (h : execRsCount s = .next t) : RsGoes [.seqBranch, .rsMag] s t := by
  unfold execRsCount at h
  split at h <;> cases h <;> exact ⟨by simp [raiseUnrecoverable], rfl⟩

theorem execRsMag_goes {s t : State} (h : execRsMag s = .next t) : RsGoes [.seqBranch, .rsCorr] s t := by
  unfold execRsMag at h
  split at h <;> cases h <;> exact ⟨by simp [raiseUnrecoverable], rfl⟩

theorem execRsCorr_goes {s t : State} (h : execRsCorr s = .next t) : RsGoes [.rsEnd] s t := by
  unfold execRsCorr at h
  split at h <;> cases h
  rename_i u hu
  exact ⟨by simp, by rw [correctAll_frame hu]; rfl⟩

theorem execRsEnd_goes {s t : State} (h : execRsEnd s = .next t) : RsGoes [.seqBranch] s t := by
  cases h
  exact ⟨by simp, rfl⟩

/-! ## After a group comes PL.LOOP (R131) -/

/-- How a row that is a group stops, whatever its operands are. -/
inductive GroupStops : Outcome → Prop
  | again (t : State) : GroupStops (.next (endGroup t))
  | raised (c : Cause) (t : State) : GroupStops (.next (raiseInvalidPayload c t))
  | stopped (f : Fault) : GroupStops (.fault f)

theorem triple_stops (value : Nat → State → Eff) (a b c : Nat) (s : State) : GroupStops (triple value a b c s) := by
  rcases triple_cases value a b c s with ⟨t, -, hr⟩ | ⟨cause, t, -, hr⟩ <;> rw [hr]
  · exact .again _
  · exact .raised cause t

theorem base256Field_stops (start len : Nat) (s : State) : GroupStops (base256Field start len s) := by
  rcases base256Field_cases start len s with ⟨-, hr⟩ | ⟨-, ws, -, hr⟩ | ⟨-, f, -, hr⟩ <;> rw [hr]
  · exact .raised _ s
  · exact .again _
  · exact .stopped f

theorem exec_group_stops {i : Instr} (hi : i.isGroup = true) (s : State) : GroupStops (exec i s) := by
  cases i with
  | asc | pad | dig | lc40 | lb256 | fnc1 | ush | mac05 | mac06 | lx12 | ltxt | ledf | eci => exact .again _
  | rsv0 | rsv233 | rsv236 | rsv242 => exact .raised _ s
  | pairShortC40 | pairShortText | pairShortX12 | unlC40 | unlText | unlX12 => exact .again _
  | rsvPair0C40 | rsvPair0Text | rsvPair0X12 | rsvPairHiC40 | rsvPairHiText | rsvPairHiX12 => exact .raised _ s
  | triC40 a b c | triText a b c | triX12 a b c => exact triple_stops _ a b c s
  | edfShort | edf => exact .again _
  | b256L0 | b256L1 => exact base256Field_stops _ _ s
  | b256L2 d0 d1 =>
    cases d1 with
    | none => exact .raised _ s
    | some d => exact base256Field_stops _ _ s
  | _ => exact absurd hi Bool.false_ne_true

/-- A group that does not end the transaction leaves the sequencer at PL.LOOP. -/
theorem upc_of_group {s t : State} {i : Instr} (hi : i.isGroup = true) (h : exec i s = .next t)
    (hp : t.phase = .payload) : t.upc = .plLoop := by
  have hstops := exec_group_stops hi s
  rw [h] at hstops
  cases hstops with
  | again => rfl
  | raised => cases hp

end Sys2Proof.Machine

open Sys2Proof.Machine

/-- Settles O13: the fetch follows the sequencer position, each micro-operation of the RS phase names the positions it
goes on with, and every group that goes on ends at PL.LOOP. -/
theorem stepRunsTheMicroOperation : Obligations.StepRunsTheMicroOperation := by
  refine ⟨fun s u i hmem hu hb hq => ?_, fun s t => ⟨fun h => (execRsSynd_goes h).upc_eq,
    fun h => (execRsChien_goes h).upc_eq, fun h => (execRsCorr_goes h).upc_eq, fun h => (execRsEnd_goes h).upc_eq,
    fun h hp => ?_⟩, fun s t i _ hi h hp => upc_of_group hi h hp⟩
  · have hi : u.instr = some i :=
      (by decide : ∀ p ∈ (_ : List (Micro × Sys2Proof.Instr)), p.1.instr = some p.2) (u, i) hmem
    exact step_of_micro (hu ▸ hi) hb hq
  · rcases execSeqBranch_next h with rfl | rfl
    · cases hp
    · rfl

/-- Settles O14. -/
theorem stepTakesTheHostEvent : Obligations.StepTakesTheHostEvent := by
  refine fun s q => ⟨fun dw ew cells hb h => ?_, fun hb h => ?_, fun hb h => step_of_not_busy h hb, fun hb h => ?_,
    fun h => ?_⟩
  · rw [step_eq_outcome, nextTurn_of_load hb h]
    rfl
  · rw [step_eq_outcome, nextTurn_of_start hb h]
    rfl
  · rw [step_eq_outcome, nextTurn_of_wait h, blockTurn_of_not_busy (s := withHost q s) hb]
    rfl
  · rw [step_eq_outcome, nextTurn_of_reset h]
    rfl

/-- Settles O15: the cells of the stream are distinct and lie below `n`, so each reads as written. -/
theorem loadWritesTheStream : Obligations.LoadWritesTheStream := by
  intro s dw ew ws hb hlen
  refine ⟨_, execLoad_of_cells hb fun c hc => hlen ▸ lt_length_of_mem_streamCells hc, by simp, fun k hk => ?_,
    fun a ha => Mem.read_writeAll_of_not_mem (fun c hc => ?_) s.cw⟩
  · have hcell : (k, ws[k]) ∈ streamCells ws := mem_streamCells.2 (List.getElem?_eq_getElem hk)
    rw [Nat.zero_add, List.getElem?_eq_getElem hk]
    exact Mem.read_writeAll_of_mem (streamCells_distinct ws) hcell s.cw
  · have := lt_length_of_mem_streamCells hc
    omega

/-- Settles O17. -/
theorem startBeginsATransaction : Obligations.StartBeginsATransaction := fun s hb hdw hew hcells =>
  execStart_of_loaded hb (s.loaded_iff.2 ⟨hdw, hew, fun i hi => Option.isSome_iff_ne_none.2 (hcells i hi)⟩)

/-- Settles O31. -/
theorem seqBranchFollowsTheOutcome : Obligations.SeqBranchFollowsTheOutcome := fun _ =>
  ⟨execSeqBranch_of_unrecoverable, fun h => ⟨_, execSeqBranch_of_passed h, rfl⟩⟩

end

section
namespace Sys2Proof.Machine

/-! ## A group brings the loop of R131 nearer its end -/

/-- How a group counts towards the end of the payload phase: it moves `IDX` on, or moves past nothing and returns from
another mode to ASCII (R161, R191), or it does not go on. -/
inductive GroupAdvances (s : State) : Outcome → Prop
  | moved {t : State} (h : s.idx < t.idx) : GroupAdvances s (.next t)
  | unlatched {t : State} (hidx : t.idx = s.idx) (hfrom : s.mode ≠ .ascii) (hto : t.mode = .ascii) :
      GroupAdvances s (.next t)
  | raised (c : Cause) (t : State) : GroupAdvances s (.next (raiseInvalidPayload c t))
  | stopped (f : Fault) : GroupAdvances s (.fault f)

theorem GroupAdvances.one {s t : State} (hidx : t.idx = s.idx) : GroupAdvances s (.next (endGroup (advance 1 t))) :=
  .moved (by simp [hidx])

theorem decodeAscii_advances {s : State} (hleft : s.idx < s.dw) (w : Byte) (next : Option Byte) :
    GroupAdvances s (exec (decodeAscii s.idx w next) s) := by
  fun_cases decodeAscii
  case case1 | case8 | case11 | case13 | case18 => exact .raised _ s
  case case2 | case4 => exact .one (by simp)
  case case5 | case6 | case7 | case9 | case14 | case15 | case16 => exact .one rfl
  case case3 => exact .moved hleft
  case case10 h | case12 h => exact .moved (by simp [macroPrefix, h])
  case case17 => exact .moved (by simp; omega)

theorem pairForm_advances {s : State} (hm : s.mode ≠ .ascii) {value : Nat → State → Eff}
    (hv : ∀ v t, t.mode = s.mode → ValueEnds 1 t (value v t)) (f : PairForm) :
    GroupAdvances s (runPairForm value f s) := by
  cases f with
  | short => exact .unlatched rfl hm rfl
  | unl => exact .one rfl
  | pair0 | pairHi => exact .raised _ s
  | tri a b c =>
    obtain ⟨k, -, hends⟩ := runValues_ends hv [a, b, c] rfl
    rcases triple_cases value a b c s with ⟨t, ht, hr⟩ | ⟨cause, t, -, hr⟩ <;> rw [runPairForm, hr]
    · rw [ht] at hends
      have hidx : t.idx = s.idx := ValueRun.idx_eq hends
      exact .moved (by simp [hidx])
    · exact .raised cause t

theorem edfResume_pos (j : Nat) : 0 < edfResume j := by
  unfold edfResume
  split <;> decide

/-- A triple moves `IDX` on, at an unlatch too (R194). -/
theorem lt_runEdf_idx (vs : List Nat) (j : Nat) (s : State) : s.idx < (runEdf j vs s).idx := by
  induction vs generalizing j s with
  | nil => simp [runEdf]
  | cons v vs ih =>
    unfold runEdf
    split_ifs
    · exact ih (j + 1) (edfLowChar v s)
    · simpa [edfUnlatch] using edfResume_pos j
    · exact ih (j + 1) (edfHighChar v s)

theorem decodeEdifact_advances {s : State} (hm : s.mode ≠ .ascii) (w : Byte) (rest : List Byte) :
    GroupAdvances s (exec (decodeEdifact w rest) s) := by
  fun_cases decodeEdifact
  · exact .moved (lt_runEdf_idx _ 0 s)
  · exact .unlatched rfl hm rfl

theorem base256Field_advances {s : State} {start : Nat} (hstart : s.idx < start) (len : Nat) :
    GroupAdvances s (base256Field start len s) := by
  rcases base256Field_cases start len s with ⟨-, hr⟩ | ⟨-, ws, -, hr⟩ | ⟨-, f, -, hr⟩ <;> rw [hr]
  · exact .raised _ s
  · exact .moved (by simp; omega)
  · exact .stopped f

theorem decodeBase256_advances (s : State) (w : Byte) (next : Option Byte) :
    GroupAdvances s (exec (decodeBase256 s.idx w next) s) := by
  unfold decodeBase256
  split_ifs
  · exact base256Field_advances (by omega) _
  · exact base256Field_advances (by omega) _
  · cases next with
    | none => exact .raised _ s
    | some d => exact base256Field_advances (by omega) _

theorem groupRow_advances {s : State} (hleft : s.idx < s.dw) (w : Byte) (rest : List Byte) :
    GroupAdvances s (exec (groupRow s.mode s.idx w rest) s) := by
  cases hm : s.mode with
  | ascii => exact decodeAscii_advances hleft w rest.head?
  | c40 => exact exec_c40 _ s ▸ pairForm_advances (by simp [hm]) (fun v t ht => valueC40_ends v (ht.trans hm)) _
  | text => exact exec_text _ s ▸ pairForm_advances (by simp [hm]) (fun v t ht => valueText_ends v (ht.trans hm)) _
  | x12 => exact exec_x12 _ s ▸ pairForm_advances (by simp [hm]) (fun v t _ => valueX12_ends v t) _
  | edifact => exact decodeEdifact_advances (by simp [hm]) w rest
  | base256 => exact decodeBase256_advances s w rest.head?

/-! ## How many steps are left -/

/-- A bound on the groups still to be executed: two for each codeword left, and one for a return to ASCII mode that
moves past nothing. -/
def State.groupsLeft (s : State) : Nat := 2 * (s.dw - s.idx) + if s.mode = .ascii then 0 else 1

@[simp] theorem groupsLeft_goto (u : Micro) (s : State) : (goto u s).groupsLeft = s.groupsLeft := rfl

/-- A bound on the steps to DONE. The loop of R131 takes three steps for each group and three to end; PL.INIT finds
`2 DW` groups to come. -/
def State.stepsLeft (s : State) : Nat :=
  match s.upc with
  | .rsSynd => 6 * s.dw + 13
  | .rsZero => 6 * s.dw + 12
  | .rsLoc => 6 * s.dw + 11
  | .rsChien => 6 * s.dw + 10
  | .rsCount => 6 * s.dw + 9
  | .rsMag => 6 * s.dw + 8
  | .rsCorr => 6 * s.dw + 7
  | .rsEnd => 6 * s.dw + 6
  | .seqBranch => 6 * s.dw + 5
  | .plInit => 6 * s.dw + 4
  | .plLoop => 3 * s.groupsLeft + 3
  | .plDispatch => 3 * s.groupsLeft + 2
  | .group => 3 * s.groupsLeft + 1
  | .plEnd => 2
  | .seqDone => 1

theorem State.stepsLeft_pos (s : State) : 0 < s.stepsLeft := by
  unfold State.stepsLeft
  split <;> omega

/-- A group that moves `IDX` on leaves fewer groups: it may change the mode, but it moved past a codeword. -/
theorem groupsLeft_lt_of_moved {s t : State} (hdw : t.dw = s.dw) (hleft : s.idx < s.dw) (h : s.idx < t.idx) :
    t.groupsLeft < s.groupsLeft := by
  unfold State.groupsLeft
  split_ifs <;> omega

theorem groupsLeft_lt_of_unlatched {s t : State} (hdw : t.dw = s.dw) (hidx : t.idx = s.idx) (hfrom : s.mode ≠ .ascii)
    (hto : t.mode = .ascii) : t.groupsLeft < s.groupsLeft := by
  simp [State.groupsLeft, hdw, hidx, hfrom, hto]

/-! ## Every step brings a transaction nearer its end -/

/-- From `s` to `t` the block came nearer to DONE, and left the host's list as it was. -/
structure Nearer (s t : State) : Prop where
  host_eq : t.host = s.host
  nearer : t.phase = .done ∨ t.busy = true ∧ t.stepsLeft < s.stepsLeft

theorem RsGoes.nearer {us : List Micro} {s t : State} (h : RsGoes us s t) (hb : s.busy = true)
    (hus : ∀ u ∈ us, (goto u s).stepsLeft < s.stepsLeft) : Nearer s t := by
  have hleft : t.stepsLeft = (goto t.upc s).stepsLeft := by rw [h.frame]; rfl
  refine ⟨by rw [h.frame], .inr ⟨by rw [h.frame]; exact hb, ?_⟩⟩
  rw [hleft]
  exact hus t.upc h.upc_mem

theorem execSeqBranch_nearer {s t : State} (hu : s.upc = .seqBranch) (h : execSeqBranch s = .next t) :
    Nearer s t := by
  rcases execSeqBranch_next h with rfl | rfl
  · exact ⟨rfl, .inl rfl⟩
  · exact ⟨rfl, .inr ⟨rfl, by simp [State.stepsLeft, hu]⟩⟩

theorem execPlInit_nearer {s t : State} (hb : s.busy = true) (hu : s.upc = .plInit) (h : execPlInit s = .next t) :
    Nearer s t := by
  cases h
  exact ⟨rfl, .inr ⟨hb, by simp [State.stepsLeft, State.groupsLeft, hu]; omega⟩⟩

theorem execPlLoop_nearer {s t : State} (hb : s.busy = true) (hu : s.upc = .plLoop) (h : execPlLoop s = .next t) :
    Nearer s t := by
  unfold execPlLoop at h
  split at h <;> cases h
  · exact ⟨rfl, .inr ⟨hb, by simp [State.stepsLeft, hu]⟩⟩
  · exact ⟨rfl, .inr ⟨hb, by simp [State.stepsLeft, hu]⟩⟩

theorem execPlDispatch_nearer {s t : State} (hb : s.busy = true) (hu : s.upc = .plDispatch)
    (h : execPlDispatch s = .next t) : Nearer s t := by
  cases h
  exact ⟨rfl, .inr ⟨hb, by simp [State.stepsLeft, hu]⟩⟩

theorem execPlEnd_nearer {s t : State} (hb : s.busy = true) (hu : s.upc = .plEnd) (h : execPlEnd s = .next t) :
    Nearer s t := by
  unfold execPlEnd at h
  split at h <;> cases h
  · exact ⟨rfl, .inr ⟨hb, by simp [State.stepsLeft, hu]⟩⟩
  · exact ⟨by simp, .inr ⟨by simpa [State.busy] using hb, by simp [State.stepsLeft, hu]⟩⟩

theorem execSeqDone_nearer {s t : State} (h : execSeqDone s = .next t) : Nearer s t := by
  unfold execSeqDone at h
  split at h <;> cases h <;> exact ⟨rfl, .inl rfl⟩

/-- A group that goes on leaves fewer groups. -/
theorem execGroup_nearer {s t : State} {i : Instr} (hI : Inv s) (hb : s.busy = true) (hu : s.upc = .group)
    (hf : fetchGroup s = .ok i) (h : exec i s = .next t) : Nearer s t := by
  obtain ⟨w, rest, hrest, rfl⟩ := fetchGroup_ok hf
  have hready : GroupReady s := hI.groupReady (hI.phase_of_group hb hu) (.inr hu)
  have hends := groupRow_ends hready w rest hrest
  have hadvances := groupRow_advances hready.left w rest
  rw [h] at hends hadvances
  cases hends with
  | raised run => exact ⟨(congrArg State.host run.frame).trans rfl, .inl rfl⟩
  | again run hupc =>
    refine ⟨(congrArg State.host run.frame).trans rfl, ?_⟩
    have hfewer (hlt : t.groupsLeft < s.groupsLeft) : t.busy = true ∧ t.stepsLeft < s.stepsLeft :=
      ⟨run.busy_eq.trans hb, by simp only [State.stepsLeft, hu, hupc]; omega⟩
    cases hadvances with
    | moved hlt => exact .inr (hfewer (groupsLeft_lt_of_moved run.dw_eq hready.left hlt))
    | unlatched hidx hfrom hto => exact .inr (hfewer (groupsLeft_lt_of_unlatched run.dw_eq hidx hfrom hto))
    | raised => exact .inl rfl

theorem exec_fetch_nearer {s t : State} {i : Instr} (hI : Inv s) (hb : s.busy = true) (hf : fetch s = .ok i)
    (h : exec i s = .next t) : Nearer s t := by
  cases hu : s.upc
  all_goals simp only [fetch, hu, Except.ok.injEq] at hf
  case group => exact execGroup_nearer hI hb hu hf h
  all_goals subst hf
  case rsSynd => exact (execRsSynd_goes h).nearer hb (by simp [State.stepsLeft, hu])
  case rsZero => exact (execRsZero_goes h).nearer hb (by simp [State.stepsLeft, hu])
  case rsLoc => exact (execRsLoc_goes h).nearer hb (by simp [State.stepsLeft, hu])
  case rsChien => exact (execRsChien_goes h).nearer hb (by simp [State.stepsLeft, hu])
  case rsCount => exact (execRsCount_goes h).nearer hb (by simp [State.stepsLeft, hu])
  case rsMag => exact (execRsMag_goes h).nearer hb (by simp [State.stepsLeft, hu])
  case rsCorr => exact (execRsCorr_goes h).nearer hb (by simp [State.stepsLeft, hu])
  case rsEnd => exact (execRsEnd_goes h).nearer hb (by simp [State.stepsLeft, hu])
  case seqBranch => exact execSeqBranch_nearer hu h
  case plInit => exact execPlInit_nearer hb hu h
  case plLoop => exact execPlLoop_nearer hb hu h
  case plDispatch => exact execPlDispatch_nearer hb hu h
  case plEnd => exact execPlEnd_nearer hb hu h
  case seqDone => exact execSeqDone_nearer h

/-- With no reset in the host's list a running block takes its own turn, at most a `wait` being removed first. -/
theorem nextTurn_of_undisturbed {s : State} (hb : s.busy = true) (hq : s.undisturbed) :
    ∃ q, q ⊆ s.host ∧ nextTurn s = blockTurn (withHost q s) := by
  rcases nextTurn_cases s with ⟨q, h, -⟩ | ⟨q, h, hturn⟩ | ⟨_, _, _, _, -, hidle, -⟩ | ⟨_, -, hidle, -⟩ | hturn
  · exact absurd (h ▸ List.mem_cons_self) hq
  · exact ⟨q, h ▸ List.subset_cons_self _ q, hturn⟩
  · cases hb.symm.trans hidle
  · cases hb.symm.trans hidle
  · exact ⟨s.host, List.Subset.refl _, hturn⟩

/-- The block's own turn ends the transaction or leaves fewer steps. -/
theorem blockTurn_nearer {s t : State} (hI : Inv s) (hb : s.busy = true) (h : (blockTurn s).outcome = .next t) :
    Nearer s t := by
  rcases blockTurn_cases s with ⟨hidle, -⟩ | ⟨-, i, hf, hturn⟩ | ⟨-, f, -, hturn⟩
  · cases hb.symm.trans hidle
  · rw [hturn] at h
    exact exec_fetch_nearer hI hb hf h
  · rw [hturn] at h
    cases h

/-- A step of a transaction that is not abandoned ends it or leaves fewer steps. -/
theorem Inv.step_nearer {s t : State} (hI : Inv s) (hb : s.busy = true) (hq : s.undisturbed) (h : step s = .next t) :
    t.undisturbed ∧ (t.phase = .done ∨ t.busy = true ∧ t.stepsLeft < s.stepsLeft) := by
  obtain ⟨q, hsub, hturn⟩ := nextTurn_of_undisturbed hb hq
  rw [step_eq_outcome, hturn] at h
  obtain ⟨hhost, hnearer⟩ := blockTurn_nearer (hI.withHost q) hb h
  have hhost : t.host = q := hhost
  exact ⟨fun hmem => hq (hsub (hhost ▸ hmem)), hnearer⟩

/-- A transaction that is not abandoned reaches DONE within the steps left. -/
theorem Inv.run_reaches_done {m : Nat} {s : State} (hI : Inv s) (hb : s.busy = true) (hq : s.undisturbed)
    (hm : s.stepsLeft ≤ m) : ∃ k t, k ≤ m ∧ Host.Core.run Sys2Proof.core k s = .next t ∧ t.phase = .done := by
  induction m generalizing s with
  | zero => exact absurd s.stepsLeft_pos (by omega)
  | succ m ih =>
    obtain ⟨t, ht⟩ := hI.step_answers hb
    obtain ⟨hqt, hdone | ⟨hbt, hlt⟩⟩ := hI.step_nearer hb hq ht
    · exact ⟨1, t, by omega, by rw [core_run_succ, ht]; rfl, hdone⟩
    · obtain ⟨k, u, hk, hrun, hdone⟩ := ih (step_keeps_inv hI ht) hbt hqt (by omega)
      exact ⟨k + 1, u, by omega, by rw [core_run_succ, ht]; exact hrun, hdone⟩

end Sys2Proof.Machine

open Sys2Proof.Machine

/-- Settles O59: every step lowers the number of steps left, which is `6 DW + 13` at RS.SYND: a group that moves past no
codeword returns to ASCII mode, where every group moves past one. -/
theorem everyTransactionEnds : Obligations.EveryTransactionEnds := fun s hI hp hu hq =>
  hI.run_reaches_done (busy_of_rs hp) hq (by simp [State.stepsLeft, hu])

end

section
/-! PROOFS. The field family: the two tables are the powers of `x` and their inverse, and the laws of
the field. -/

namespace Sys2Proof.Machine

/-! ## The tables (R91 to R93) -/

/-- Multiplication by the element `x` on Bytes (R91), in the form that shows it additive: what leaves at bit 7 comes
back as `0x12D` without its bit 8. -/
def timesX (a : Byte) : Byte := (a <<< 1) ^^^ (if a.msb then 0x2D else 0)

theorem timesX_toNat : ∀ a : Byte, (timesX a).toNat = xtime a.toNat := by decide +kernel

theorem timesX_gadd (a b : Byte) : timesX (gadd a b) = gadd (timesX a) (timesX b) := by
  simp only [timesX, gadd, BitVec.msb_xor, BitVec.shiftLeft_xor_distrib]
  cases a.msb <;> cases b.msb
  case true.true =>
    -- the two reductions cancel
    calc (a <<< 1 ^^^ b <<< 1) ^^^ (0 : Byte)
      _ = (a <<< 1 ^^^ b <<< 1) ^^^ (0x2D ^^^ 0x2D) := by rw [BitVec.xor_self]; rfl
      _ = (a <<< 1 ^^^ 0x2D) ^^^ (b <<< 1 ^^^ 0x2D) := by ac_rfl
  all_goals simp <;> ac_rfl

theorem alphaTo_succ : ∀ i < 254, alphaTo (i + 1) = timesX (alphaTo i) := by decide +kernel

theorem timesX_alphaTo_last : timesX (alphaTo 254) = alphaTo 0 := by decide

theorem expOf_alphaTo : ∀ i < 255, expOf (alphaTo i) = i := by decide +kernel

theorem alphaTo_expOf : ∀ a : Byte, a ≠ 0 → expOf a < 255 ∧ alphaTo (expOf a) = a := by decide +kernel

theorem expOf_zero : expOf 0 = 255 := rfl

theorem alphaTo_zero : alphaTo 0 = 1 := rfl

theorem alphaTo_ne_zero {i : Nat} (hi : i < 255) : alphaTo i ≠ 0 := by
  intro h
  have hexp := expOf_alphaTo i hi
  rw [h, expOf_zero] at hexp
  omega

theorem alphaTo_inj {i j : Nat} (hi : i < 255) (hj : j < 255) (h : alphaTo i = alphaTo j) : i = j := by
  rw [← expOf_alphaTo i hi, h, expOf_alphaTo j hj]

/-! ## Powers: every exponent is reduced modulo 255 (R98) -/

@[simp] theorem expOf_alphaTo_mod (i : Nat) : expOf (alphaTo (i % 255)) = i % 255 :=
  expOf_alphaTo _ (Nat.mod_lt _ (by decide))

theorem alphaTo_mod_ne_zero (i : Nat) : alphaTo (i % 255) ≠ 0 := alphaTo_ne_zero (Nat.mod_lt _ (by decide))

/-- The powers of `x` are all the Bytes but 0. -/
theorem eq_zero_or_alphaTo_mod (a : Byte) : a = 0 ∨ ∃ i, a = alphaTo (i % 255) := by
  refine or_iff_not_imp_left.2 fun ha => ?_
  obtain ⟨hlt, heq⟩ := alphaTo_expOf a ha
  exact ⟨expOf a, by rw [Nat.mod_eq_of_lt hlt, heq]⟩

theorem timesX_alphaTo_mod (i : Nat) : timesX (alphaTo (i % 255)) = alphaTo ((i + 1) % 255) := by
  by_cases hlast : i % 255 = 254
  · rw [hlast, timesX_alphaTo_last, show (i + 1) % 255 = 0 by omega]
  · rw [← alphaTo_succ _ (by omega), show (i + 1) % 255 = i % 255 + 1 by omega]

theorem timesX_iterate_alphaTo_mod (i j : Nat) : timesX^[i] (alphaTo (j % 255)) = alphaTo ((i + j) % 255) := by
  induction i with
  | zero => simp
  | succ i ih => rw [Function.iterate_succ_apply', ih, timesX_alphaTo_mod, Nat.add_right_comm]

theorem timesX_iterate_zero (i : Nat) : timesX^[i] 0 = 0 := Function.iterate_fixed rfl i

theorem timesX_iterate_gadd (i : Nat) (a b : Byte) :
    timesX^[i] (gadd a b) = gadd (timesX^[i] a) (timesX^[i] b) := by
  induction i with
  | zero => rfl
  | succ i ih => simp only [Function.iterate_succ_apply', ih, timesX_gadd]

/-! ## `gadd` (R94) -/

theorem gadd_assoc (a b c : Byte) : gadd (gadd a b) c = gadd a (gadd b c) := BitVec.xor_assoc a b c

theorem gadd_comm (a b : Byte) : gadd a b = gadd b a := BitVec.xor_comm a b

theorem gadd_zero (a : Byte) : gadd a 0 = a := BitVec.xor_zero

theorem zero_gadd (a : Byte) : gadd 0 a = a := BitVec.zero_xor

theorem gadd_self (a : Byte) : gadd a a = 0 := BitVec.xor_self

theorem gadd_eq_zero_iff {a b : Byte} : gadd a b = 0 ↔ a = b := BitVec.xor_eq_zero_iff

theorem gadd_gadd_gadd_comm (a b c d : Byte) : gadd (gadd a b) (gadd c d) = gadd (gadd a c) (gadd b d) := by
  simp only [gadd]
  ac_rfl

/-! ## `gmul`, `ginv` and `apow` (R95, R96, R98, R99) -/

theorem gmul_zero (a : Byte) : gmul a 0 = 0 := if_pos (.inr rfl)

theorem zero_gmul (a : Byte) : gmul 0 a = 0 := if_pos (.inl rfl)

theorem gmul_alphaTo_mod (i j : Nat) : gmul (alphaTo (i % 255)) (alphaTo (j % 255)) = alphaTo ((i + j) % 255) := by
  rw [gmul, if_neg (not_or.2 ⟨alphaTo_mod_ne_zero i, alphaTo_mod_ne_zero j⟩), expOf_alphaTo_mod, expOf_alphaTo_mod,
    ← Nat.add_mod]

/-- The product by the power `i` is `i` multiplications by `x`, which makes it additive. -/
theorem gmul_alphaTo_mod_left (i : Nat) (b : Byte) : gmul (alphaTo (i % 255)) b = timesX^[i] b := by
  obtain rfl | ⟨j, rfl⟩ := eq_zero_or_alphaTo_mod b
  · rw [gmul_zero, timesX_iterate_zero]
  · rw [gmul_alphaTo_mod, timesX_iterate_alphaTo_mod]

theorem gmul_comm (a b : Byte) : gmul a b = gmul b a := by
  simp only [gmul, or_comm (a := a = 0), Nat.add_comm (expOf a)]

theorem gmul_assoc (a b c : Byte) : gmul (gmul a b) c = gmul a (gmul b c) := by
  obtain rfl | ⟨i, rfl⟩ := eq_zero_or_alphaTo_mod a
  · simp only [zero_gmul]
  obtain rfl | ⟨j, rfl⟩ := eq_zero_or_alphaTo_mod b
  · simp only [gmul_zero, zero_gmul]
  obtain rfl | ⟨k, rfl⟩ := eq_zero_or_alphaTo_mod c
  · simp only [gmul_zero]
  simp only [gmul_alphaTo_mod, Nat.add_assoc]

theorem gmul_gadd (a b c : Byte) : gmul a (gadd b c) = gadd (gmul a b) (gmul a c) := by
  obtain rfl | ⟨i, rfl⟩ := eq_zero_or_alphaTo_mod a
  · simp only [zero_gmul, gadd_zero]
  · simp only [gmul_alphaTo_mod_left, timesX_iterate_gadd]

theorem gadd_gmul (a b c : Byte) : gmul (gadd a b) c = gadd (gmul a c) (gmul b c) := by
  simp only [gmul_comm _ c, gmul_gadd]

theorem one_gmul (a : Byte) : gmul 1 a = a := gmul_alphaTo_mod_left 0 a

theorem gmul_one (a : Byte) : gmul a 1 = a := by rw [gmul_comm, one_gmul]

theorem ginv_of_ne_zero {a : Byte} (ha : a ≠ 0) : ginv a = alphaTo ((255 - expOf a) % 255) := if_neg ha

theorem ginv_ne_zero {a : Byte} (ha : a ≠ 0) : ginv a ≠ 0 := by rw [ginv_of_ne_zero ha]; exact alphaTo_mod_ne_zero _

theorem gmul_ginv {a : Byte} (ha : a ≠ 0) : gmul a (ginv a) = 1 := by
  obtain rfl | ⟨i, rfl⟩ := eq_zero_or_alphaTo_mod a
  · exact absurd rfl ha
  · rw [ginv_of_ne_zero ha, expOf_alphaTo_mod, gmul_alphaTo_mod, show (i + (255 - i % 255)) % 255 = 0 by omega,
      alphaTo_zero]

theorem ginv_gmul {a : Byte} (ha : a ≠ 0) : gmul (ginv a) a = 1 := by rw [gmul_comm, gmul_ginv ha]

theorem gmul_eq_zero_iff {a b : Byte} : gmul a b = 0 ↔ a = 0 ∨ b = 0 := by
  constructor
  · intro h
    by_contra hne
    rw [gmul, if_neg hne] at h
    exact alphaTo_mod_ne_zero _ h
  · rintro (rfl | rfl)
    · exact zero_gmul b
    · exact gmul_zero a

theorem apow_add (e f : Int) : apow (e + f) = gmul (apow e) (apow f) := by
  have he : (e % 255).toNat % 255 = (e % 255).toNat := by omega
  have hf : (f % 255).toNat % 255 = (f % 255).toNat := by omega
  have hsum : ((e + f) % 255).toNat = ((e % 255).toNat + (f % 255).toNat) % 255 := by omega
  rw [apow, apow, apow, ← he, ← hf, gmul_alphaTo_mod, hsum]

theorem apow_eq_apow_iff {e f : Int} : apow e = apow f ↔ e % 255 = f % 255 := by
  constructor
  · intro h
    have hnat : (e % 255).toNat = (f % 255).toNat := alphaTo_inj (by omega) (by omega) h
    omega
  · intro h
    rw [apow, apow, h]

end Sys2Proof.Machine

open Sys2Proof.Machine

/-- Settles O1: every entry of the table is the one before times `x`; the inverse table keeps the entries apart. -/
theorem alphaTableIsPowersOfX : Obligations.AlphaTableIsPowersOfX := by
  refine ⟨rfl, rfl, ?recurrence, by decide, by decide, fun i hi => alphaTo_ne_zero (by omega),
    fun i j hi hj => alphaTo_inj (by omega) (by omega)⟩
  intro i hi
  rw [alphaTo_succ i (by omega), timesX_toNat, xtime, Nat.shiftLeft_eq, Nat.mul_comm, pow_one]

/-- Settles O2: the index of a Byte in the table is found again from the entry, so no other index has it. -/
theorem expTableInvertsAlphaTable : Obligations.ExpTableInvertsAlphaTable := by
  refine ⟨fun a ha => ?_, rfl, rfl⟩
  obtain ⟨hlt, heq⟩ := alphaTo_expOf a ha
  refine ⟨by omega, heq, fun i hi hentry => ?_⟩
  rw [← hentry, expOf_alphaTo i (by omega)]

/-- Settles O3: the non-zero Bytes are the powers of `x` with exponents modulo 255, and the product by a power is a
repeated multiplication by `x`, which is additive. -/
theorem fieldLaws : Obligations.FieldLaws :=
  ⟨fun _ _ => rfl, fun _ _ => rfl, fun _ => ginv_of_ne_zero, fun _ _ _ => rfl,
    fun _ => ⟨by omega, by omega, rfl⟩, gadd_assoc, gadd_comm, gmul_assoc, gmul_comm, gmul_gadd, gadd_zero, gmul_one,
    fun _ => gmul_ginv, apow_add, fun _ _ => apow_eq_apow_iff⟩

end

section
/-! PROOFS. The field family: the elimination keeps the solutions of the system, and its answer is the solution in
which the free unknowns are 0, wherever there is one. -/

namespace Sys2Proof.Machine

/-! ## `xorSum` -/

theorem xorAll_append (l₁ l₂ : List Byte) : xorAll (l₁ ++ l₂) = gadd (xorAll l₁) (xorAll l₂) := by
  induction l₁ with
  | nil => exact (zero_gadd _).symm
  | cons a l ih => exact (congrArg (gadd a) ih).trans (gadd_assoc a _ _).symm

theorem xorSum_succ (k : Nat) (f : Nat → Byte) : xorSum (k + 1) f = gadd (xorSum k f) (f k) := by
  rw [xorSum, List.range_succ, List.map_append, xorAll_append]
  exact congrArg _ (gadd_zero (f k))

theorem xorSum_congr {k : Nat} {f g : Nat → Byte} (h : ∀ j < k, f j = g j) : xorSum k f = xorSum k g := by
  rw [xorSum, xorSum, List.map_congr_left fun j hj => h j (List.mem_range.1 hj)]

theorem xorSum_gadd (k : Nat) (f g : Nat → Byte) :
    xorSum k (fun j => gadd (f j) (g j)) = gadd (xorSum k f) (xorSum k g) := by
  induction k with
  | zero => exact (gadd_zero 0).symm
  | succ k ih => simp only [xorSum_succ, ih, gadd_gadd_gadd_comm]

theorem gmul_xorSum (c : Byte) (k : Nat) (f : Nat → Byte) : gmul c (xorSum k f) = xorSum k fun j => gmul c (f j) := by
  induction k with
  | zero => exact gmul_zero c
  | succ k ih => simp only [xorSum_succ, gmul_gadd, ih]

theorem xorSum_eq_of_le {k n : Nat} {f : Nat → Byte} (hk : k ≤ n) (h : ∀ j, k ≤ j → f j = 0) :
    xorSum n f = xorSum k f := by
  induction n, hk using Nat.le_induction with
  | base => rfl
  | succ n hn ih => rw [xorSum_succ, ih, h n hn, gadd_zero]

theorem xorSum_eq_zero {k : Nat} {f : Nat → Byte} (h : ∀ j < k, f j = 0) : xorSum k f = 0 := by
  rw [xorSum_congr h]
  exact xorSum_eq_of_le (Nat.zero_le k) fun _ _ => rfl

theorem xorSum_eq_single {k i : Nat} {f : Nat → Byte} (hi : i < k) (h : ∀ j, j ≠ i → f j = 0) : xorSum k f = f i := by
  rw [xorSum_eq_of_le (Nat.succ_le_of_lt hi) fun j hj => h j (by omega), xorSum_succ,
    xorSum_eq_zero fun j hj => h j (by omega), zero_gadd]

/-! ## The cells of a matrix -/

/-- The entry of row `i`, column `k`, 0 outside the matrix. -/
def cell (m : List (List Byte)) (i k : Nat) : Byte := entry (matRow m i) k

/-- Every row has `n` entries. -/
def RowsOfLength (n : Nat) (m : List (List Byte)) : Prop := ∀ row ∈ m, row.length = n

theorem entry_scaleRow (c : Byte) (row : List Byte) (k : Nat) : entry (scaleRow c row) k = gmul c (entry row k) := by
  simp only [entry, scaleRow, List.getD_eq_getElem?_getD, List.getElem?_map]
  cases row[k]? with
  | none => exact (gmul_zero c).symm
  | some a => rfl

theorem entry_addRow {r₁ r₂ : List Byte} (h : r₁.length = r₂.length) (k : Nat) :
    entry (addRow r₁ r₂) k = gadd (entry r₁ k) (entry r₂ k) := by
  simp only [entry, addRow, List.getD_eq_getElem?_getD, List.getElem?_zipWith]
  by_cases hk : k < r₁.length
  · simp [hk, h ▸ hk]
  · rw [List.getElem?_eq_none (by omega : r₁.length ≤ k), List.getElem?_eq_none (by omega : r₂.length ≤ k)]
    exact (gadd_zero 0).symm

theorem matRow_mem {m : List (List Byte)} {i : Nat} (hi : i < m.length) : matRow m i ∈ m := by
  rw [matRow, List.getD_eq_getElem _ _ hi]
  exact List.getElem_mem hi

theorem cell_of_length_le {m : List (List Byte)} {i : Nat} (hi : m.length ≤ i) (k : Nat) : cell m i k = 0 := by
  rw [cell, matRow, List.getD_eq_default _ _ hi]
  rfl

theorem lt_length_of_cell_ne_zero {m : List (List Byte)} {i k : Nat} (h : cell m i k ≠ 0) : i < m.length :=
  not_le.1 fun hle => h (cell_of_length_le hle k)

/-! ## The swap of two rows -/

theorem matRow_swapRows {m : List (List Byte)} {i j : Nat} (hi : i < m.length) (hj : j < m.length) (r : Nat) :
    matRow (swapRows m i j) r = matRow m (Equiv.swap i j r) := by
  simp only [swapRows, matRow, List.getD_eq_getElem?_getD, List.getElem?_set, List.length_set]
  obtain rfl | hrj := eq_or_ne j r
  · simp [hj]
  obtain rfl | hri := eq_or_ne i r
  · simp [hrj, hi]
  · simp [hrj, hri, Equiv.swap_apply_of_ne_of_ne hri.symm hrj.symm]

theorem cell_swapRows {m : List (List Byte)} {i j : Nat} (hi : i < m.length) (hj : j < m.length) (r k : Nat) :
    cell (swapRows m i j) r k = cell m (Equiv.swap i j r) k := by
  rw [cell, cell, matRow_swapRows hi hj]

theorem RowsOfLength.swapRows {n : Nat} {m : List (List Byte)} {i j : Nat} (h : RowsOfLength n m)
    (hi : i < m.length) (hj : j < m.length) : RowsOfLength n (swapRows m i j) := by
  intro row hrow
  obtain hrow | rfl := List.mem_or_eq_of_mem_set hrow
  · obtain hrow | rfl := List.mem_or_eq_of_mem_set hrow
    · exact h row hrow
    · exact h _ (matRow_mem hj)
  · exact h _ (matRow_mem hi)

/-! ## Clearing a column -/

/-- The pivot row divided by its pivot. -/
def pivotRow (m : List (List Byte)) (pr col : Nat) : List Byte := scaleRow (ginv (cell m pr col)) (matRow m pr)

theorem clearColumn_eq (m : List (List Byte)) (pr col : Nat) :
    clearColumn m pr col = (m.set pr (pivotRow m pr col)).mapIdx fun i row =>
      if i = pr ∨ entry row col = 0 then row else addRow row (scaleRow (entry row col) (pivotRow m pr col)) := rfl

theorem length_pivotRow {n : Nat} {m : List (List Byte)} {pr : Nat} (h : RowsOfLength n m) (hpr : pr < m.length)
    (col : Nat) : (pivotRow m pr col).length = n := by
  rw [pivotRow, scaleRow, List.length_map]
  exact h _ (matRow_mem hpr)

theorem entry_pivotRow (m : List (List Byte)) (pr col k : Nat) :
    entry (pivotRow m pr col) k = gmul (ginv (cell m pr col)) (cell m pr k) := entry_scaleRow _ _ k

theorem length_clearColumn (m : List (List Byte)) (pr col : Nat) : (clearColumn m pr col).length = m.length := by
  simp [clearColumn]

theorem matRow_clearColumn_pivot {m : List (List Byte)} {pr : Nat} (hpr : pr < m.length) (col : Nat) :
    matRow (clearColumn m pr col) pr = pivotRow m pr col := by
  simp [clearColumn_eq, matRow, hpr]

theorem matRow_clearColumn_other {m : List (List Byte)} {pr i : Nat} (hi : i < m.length) (hne : i ≠ pr) (col : Nat) :
    matRow (clearColumn m pr col) i =
      if cell m i col = 0 then matRow m i
      else addRow (matRow m i) (scaleRow (cell m i col) (pivotRow m pr col)) := by
  simp [clearColumn_eq, matRow, cell, hi, hne, hne.symm]

theorem cell_clearColumn_pivot {m : List (List Byte)} {pr : Nat} (hpr : pr < m.length) (col k : Nat) :
    cell (clearColumn m pr col) pr k = gmul (ginv (cell m pr col)) (cell m pr k) := by
  rw [cell, matRow_clearColumn_pivot hpr, entry_pivotRow]

theorem cell_clearColumn_other {n : Nat} {m : List (List Byte)} {pr i : Nat} (h : RowsOfLength n m)
    (hpr : pr < m.length) (hne : i ≠ pr) (col k : Nat) :
    cell (clearColumn m pr col) i k =
      gadd (cell m i k) (gmul (cell m i col) (gmul (ginv (cell m pr col)) (cell m pr k))) := by
  by_cases hi : i < m.length
  · rw [cell, matRow_clearColumn_other hi hne]
    split
    case isTrue hzero => rw [hzero, zero_gmul, gadd_zero, cell]
    case isFalse =>
      have hlen : (matRow m i).length = (scaleRow (cell m i col) (pivotRow m pr col)).length := by
        rw [scaleRow, List.length_map, length_pivotRow h hpr, h _ (matRow_mem hi)]
      rw [entry_addRow hlen, entry_scaleRow, entry_pivotRow]; rfl
  · have hzero := cell_of_length_le (not_lt.1 hi)
    rw [cell_of_length_le (by rw [length_clearColumn]; omega), hzero, hzero, zero_gmul, gadd_zero]

theorem RowsOfLength.clearColumn {n : Nat} {m : List (List Byte)} {pr : Nat} (h : RowsOfLength n m)
    (hpr : pr < m.length) (col : Nat) : RowsOfLength n (clearColumn m pr col) := by
  intro row hrow
  obtain ⟨i, hi, rfl⟩ := List.mem_iff_getElem.1 hrow
  rw [length_clearColumn] at hi
  rw [← List.getD_eq_getElem _ [] (by rwa [length_clearColumn]), ← matRow]
  obtain rfl | hne := eq_or_ne i pr
  · rw [matRow_clearColumn_pivot hpr, length_pivotRow h hpr]
  · have hlen := h _ (matRow_mem hi)
    rw [matRow_clearColumn_other hi hne]
    split
    · exact hlen
    · rw [addRow, List.length_zipWith, scaleRow, List.length_map, length_pivotRow h hpr, hlen, min_self]

/-! ## The kernel: what every row operation keeps

A vector is in the kernel of the matrix `[A | b]` when the sum over its `n` columns of `entry * v` is 0 in every row.
A solution `x` of the system followed by 1 is such a vector, and so are the coefficients of a free column. -/

/-- The product of row `i` with the vector `v`, over `n` columns. -/
def dot (n : Nat) (m : List (List Byte)) (i : Nat) (v : Nat → Byte) : Byte := xorSum n fun k => gmul (cell m i k) (v k)

/-- Every row's product with `v` is 0. -/
def InKernel (n : Nat) (m : List (List Byte)) (v : Nat → Byte) : Prop := ∀ i, dot n m i v = 0

theorem dot_swapRows {m : List (List Byte)} {i j : Nat} (hi : i < m.length) (hj : j < m.length) (n r : Nat)
    (v : Nat → Byte) : dot n (swapRows m i j) r v = dot n m (Equiv.swap i j r) v := by
  simp only [dot, cell_swapRows hi hj]

theorem dot_clearColumn_pivot {m : List (List Byte)} {pr : Nat} (hpr : pr < m.length) (n col : Nat) (v : Nat → Byte) :
    dot n (clearColumn m pr col) pr v = gmul (ginv (cell m pr col)) (dot n m pr v) := by
  simp only [dot, cell_clearColumn_pivot hpr, gmul_xorSum, gmul_assoc]

theorem dot_clearColumn_other {n : Nat} {m : List (List Byte)} {pr i : Nat} (h : RowsOfLength n m)
    (hpr : pr < m.length) (hne : i ≠ pr) (col : Nat) (v : Nat → Byte) :
    dot n (clearColumn m pr col) i v =
      gadd (dot n m i v) (gmul (cell m i col) (gmul (ginv (cell m pr col)) (dot n m pr v))) := by
  simp only [dot, cell_clearColumn_other h hpr hne, gadd_gmul, xorSum_gadd, gmul_xorSum, gmul_assoc]

theorem inKernel_swapRows_iff {m : List (List Byte)} {i j n : Nat} {v : Nat → Byte} (hi : i < m.length)
    (hj : j < m.length) : InKernel n (swapRows m i j) v ↔ InKernel n m v := by
  simp only [InKernel, dot_swapRows hi hj]
  exact (Equiv.swap i j).forall_congr_right (q := fun r => dot n m r v = 0)

theorem inKernel_clearColumn_iff {n : Nat} {m : List (List Byte)} {pr col : Nat} {v : Nat → Byte}
    (h : RowsOfLength n m) (hpiv : cell m pr col ≠ 0) :
    InKernel n (clearColumn m pr col) v ↔ InKernel n m v := by
  have hpr := lt_length_of_cell_ne_zero hpiv
  have hpivot : dot n (clearColumn m pr col) pr v = 0 ↔ dot n m pr v = 0 := by
    rw [dot_clearColumn_pivot hpr, gmul_eq_zero_iff, or_iff_right (ginv_ne_zero hpiv)]
  have hother {i : Nat} (hne : i ≠ pr) (hzero : dot n m pr v = 0) :
      dot n (clearColumn m pr col) i v = dot n m i v := by
    rw [dot_clearColumn_other h hpr hne, hzero, gmul_zero, gmul_zero, gadd_zero]
  have hrow {i : Nat} (hzero : dot n m pr v = 0) : dot n (clearColumn m pr col) i v = 0 ↔ dot n m i v = 0 := by
    obtain rfl | hne := eq_or_ne i pr
    · exact hpivot
    · rw [hother hne hzero]
  exact ⟨fun hk i => (hrow (hpivot.1 (hk pr))).1 (hk i), fun hk i => (hrow (hk pr)).2 (hk i)⟩

/-! ## The echelon form that the columns build up (R100) -/

/-- The reduced row echelon form of the columns below `col`: the column of the pivot of row `r` is the unit vector
`r`, left of its pivot a row is 0, and the rows below the pivots are 0. -/
structure Echelon (m : List (List Byte)) (pivots : List Nat) (col : Nat) : Prop where
  pivot_lt : ∀ {r p : Nat}, pivots[r]? = some p → p < col
  unit : ∀ {r p : Nat}, pivots[r]? = some p → ∀ i, cell m i p = if i = r then 1 else 0
  leading : ∀ {r p k : Nat}, pivots[r]? = some p → k < p → cell m r k = 0
  below : ∀ {i k : Nat}, pivots.length ≤ i → k < col → cell m i k = 0

theorem Echelon.start (m : List (List Byte)) : Echelon m [] 0 where
  pivot_lt h := by simp at h
  unit h := by simp at h
  leading h := by simp at h
  below _ hk := absurd hk (Nat.not_lt_zero _)

/-- A column that is 0 below the pivots is free. -/
theorem Echelon.free {m : List (List Byte)} {pivots : List Nat} {col : Nat} (h : Echelon m pivots col)
    (hcol : ∀ i, pivots.length ≤ i → cell m i col = 0) : Echelon m pivots (col + 1) where
  pivot_lt hp := Nat.lt_succ_of_lt (h.pivot_lt hp)
  unit := h.unit
  leading := h.leading
  below {i k} hi hk := by
    obtain rfl | hlt : k = col ∨ k < col := by omega
    · exact hcol i hi
    · exact h.below hi hlt

theorem lt_length_of_getElem?_eq_some {α : Type} {l : List α} {r : Nat} {a : α} (h : l[r]? = some a) : r < l.length :=
  (List.getElem?_eq_some_iff.1 h).1

/-- Rows below the pivots may be swapped. -/
theorem Echelon.swapRows {m : List (List Byte)} {pivots : List Nat} {col i j : Nat} (h : Echelon m pivots col)
    (hi : i < m.length) (hj : j < m.length) (hpi : pivots.length ≤ i) (hpj : pivots.length ≤ j) :
    Echelon (swapRows m i j) pivots col := by
  have hfix {r : Nat} (hr : r < pivots.length) : Equiv.swap i j r = r :=
    Equiv.swap_apply_of_ne_of_ne (by omega) (by omega)
  have hbelow {r : Nat} (hr : pivots.length ≤ r) : pivots.length ≤ Equiv.swap i j r := by
    rw [Equiv.swap_apply_def]
    split_ifs <;> assumption
  constructor
  case pivot_lt => exact h.pivot_lt
  case unit =>
    intro r p hp k
    have hr := lt_length_of_getElem?_eq_some hp
    simp only [cell_swapRows hi hj, h.unit hp, Equiv.swap_apply_eq_iff, hfix hr]
  case leading =>
    intro r p k hp hk
    rw [cell_swapRows hi hj, hfix (lt_length_of_getElem?_eq_some hp), h.leading hp hk]
  case below =>
    intro r k hr hk
    rw [cell_swapRows hi hj, h.below (hbelow hr) hk]

/-- Clearing a column below which the first row under the pivots is not 0 makes that row the next pivot row. -/
theorem Echelon.clearColumn {n : Nat} {m : List (List Byte)} {pivots : List Nat} {col : Nat}
    (h : Echelon m pivots col) (hlen : RowsOfLength n m) (hpiv : cell m pivots.length col ≠ 0) :
    Echelon (clearColumn m pivots.length col) (pivots ++ [col]) (col + 1) := by
  have hpr := lt_length_of_cell_ne_zero hpiv
  -- the columns in which the pivot row is 0 stay as they are
  have hkeep {k : Nat} (hk : cell m pivots.length k = 0) (i : Nat) :
      cell (Machine.clearColumn m pivots.length col) i k = cell m i k := by
    obtain rfl | hne := eq_or_ne i pivots.length
    · rw [cell_clearColumn_pivot hpr, hk, gmul_zero]
    · rw [cell_clearColumn_other hlen hpr hne, hk, gmul_zero, gmul_zero, gadd_zero]
  have hunit (i : Nat) : cell (Machine.clearColumn m pivots.length col) i col = if i = pivots.length then 1 else 0 := by
    split
    case isTrue heq => rw [heq, cell_clearColumn_pivot hpr, ginv_gmul hpiv]
    case isFalse hne => rw [cell_clearColumn_other hlen hpr hne, ginv_gmul hpiv, gmul_one, gadd_self]
  have hleft {k : Nat} (hk : k < col) (i : Nat) : cell (Machine.clearColumn m pivots.length col) i k = cell m i k :=
    hkeep (h.below le_rfl hk) i
  -- a pivot is one of those before or the new one
  have hcases {r p : Nat} (hp : (pivots ++ [col])[r]? = some p) :
      pivots[r]? = some p ∨ r = pivots.length ∧ p = col := by
    have hr := lt_length_of_getElem?_eq_some hp
    rw [List.length_append, List.length_singleton] at hr
    obtain rfl | hlt : r = pivots.length ∨ r < pivots.length := by omega
    · exact .inr ⟨rfl, by simpa using hp.symm⟩
    · exact .inl (by rwa [List.getElem?_append_left hlt] at hp)
  constructor
  case pivot_lt =>
    intro r p hp
    obtain hp | ⟨-, rfl⟩ := hcases hp
    · exact Nat.lt_succ_of_lt (h.pivot_lt hp)
    · exact Nat.lt_succ_self _
  case unit =>
    intro r p hp i
    obtain hp | ⟨rfl, rfl⟩ := hcases hp
    · rw [hleft (h.pivot_lt hp), h.unit hp]
    · exact hunit i
  case leading =>
    intro r p k hp hk
    obtain hp | ⟨rfl, rfl⟩ := hcases hp
    · rw [hleft (hk.trans (h.pivot_lt hp)), h.leading hp hk]
    · rw [hleft hk, h.below le_rfl hk]
  case below =>
    intro i k hi hk
    rw [List.length_append, List.length_singleton] at hi
    obtain rfl | hlt : k = col ∨ k < col := by omega
    · rw [hunit, if_neg (by omega)]
    · rw [hleft hlt, h.below (by omega) hlt]

/-! ## The elimination -/

theorem findPivot_none {m : List (List Byte)} {pr col : Nat} (h : findPivot m pr col = none) {i : Nat} (hi : pr ≤ i) :
    cell m i col = 0 := by
  by_contra hne
  have hlt := lt_length_of_cell_ne_zero hne
  have := List.find?_eq_none.1 h i (List.mem_range.2 hlt)
  simp only [Bool.and_eq_true, decide_eq_true_eq] at this
  exact this ⟨hi, hne⟩

theorem findPivot_some {m : List (List Byte)} {pr col r : Nat} (h : findPivot m pr col = some r) :
    pr ≤ r ∧ cell m r col ≠ 0 := by
  have := List.find?_some h
  simp only [Bool.and_eq_true, decide_eq_true_eq] at this
  exact this

/-- What holds of the elimination of the matrix `rows` after the columns below `col`. -/
structure ElimAt (n : Nat) (rows : List (List Byte)) (col : Nat) (e : Elim) : Prop where
  lengths : RowsOfLength n e.rows
  echelon : Echelon e.rows e.pivots col
  kernel : ∀ v, InKernel n e.rows v ↔ InKernel n rows v

theorem ElimAt.elimColumn {n col : Nat} {rows : List (List Byte)} {e : Elim} (h : ElimAt n rows col e) :
    ElimAt n rows (col + 1) (elimColumn e col) := by
  rw [Machine.elimColumn]
  split
  case h_1 hnone => exact ⟨h.lengths, h.echelon.free fun _ => findPivot_none hnone, h.kernel⟩
  case h_2 r hsome =>
    obtain ⟨hle, hne⟩ := findPivot_some hsome
    have hr := lt_length_of_cell_ne_zero hne
    have hpr : e.pivots.length < e.rows.length := by omega
    have hlen := h.lengths.swapRows hr hpr
    have hpiv : cell (swapRows e.rows r e.pivots.length) e.pivots.length col ≠ 0 := by
      rwa [cell_swapRows hr hpr, Equiv.swap_apply_right]
    exact ⟨hlen.clearColumn (lt_length_of_cell_ne_zero hpiv) col,
      (h.echelon.swapRows hr hpr hle le_rfl).clearColumn hlen hpiv,
      fun v => (inKernel_clearColumn_iff hlen hpiv).trans ((inKernel_swapRows_iff hr hpr).trans (h.kernel v))⟩

theorem eliminate_succ (m : Nat) (rows : List (List Byte)) :
    eliminate (m + 1) rows = elimColumn (eliminate m rows) m := by
  rw [eliminate, List.range_succ, List.foldl_append]
  rfl

theorem elimAt_eliminate {n : Nat} {rows : List (List Byte)} (h : RowsOfLength n rows) (m : Nat) :
    ElimAt n rows m (eliminate m rows) := by
  induction m with
  | zero => exact ⟨h, Echelon.start rows, fun _ => Iff.rfl⟩
  | succ m ih => rw [eliminate_succ]; exact ih.elimColumn

/-! ## The answer of the elimination -/

theorem inconsistent_eq_true_iff {m : Nat} {e : Elim} :
    inconsistent m e = true ↔ ∃ i, e.pivots.length ≤ i ∧ cell e.rows i m ≠ 0 := by
  simp only [inconsistent, List.any_eq_true, decide_eq_true_eq]
  constructor
  · rintro ⟨row, hrow, hne⟩
    obtain ⟨i, hi, rfl⟩ := List.mem_iff_getElem.1 hrow
    rw [List.length_drop] at hi
    refine ⟨e.pivots.length + i, by omega, ?_⟩
    rwa [cell, matRow, List.getD_eq_getElem _ _ (by omega), ← List.getElem_drop]
  · rintro ⟨i, hi, hne⟩
    have hlt := lt_length_of_cell_ne_zero hne
    refine ⟨matRow e.rows i, List.mem_drop_iff_getElem.2 ⟨i - e.pivots.length, by omega, ?_⟩, hne⟩
    rw [matRow, List.getD_eq_getElem _ _ hlt]
    congr 1
    omega

theorem solutionAt_cases (m : Nat) (e : Elim) (k : Nat) :
    (∃ r, e.pivots[r]? = some k ∧ solutionAt m e k = cell e.rows r m) ∨ k ∉ e.pivots ∧ solutionAt m e k = 0 := by
  rw [solutionAt]
  split
  case h_1 r hfind =>
    obtain ⟨hr, heq, -⟩ := List.findIdx?_eq_some_iff_getElem.1 hfind
    exact .inl ⟨r, List.getElem?_eq_some_iff.2 ⟨hr, eq_of_beq heq⟩, rfl⟩
  case h_2 hfind =>
    refine .inr ⟨fun hmem => ?_, rfl⟩
    exact Bool.false_ne_true ((List.findIdx?_eq_none_iff.1 hfind k hmem).symm.trans (beq_self_eq_true k))

theorem solutionAt_eq_zero {m k : Nat} {e : Elim} (h : k ∉ e.pivots) : solutionAt m e k = 0 := by
  obtain ⟨r, hr, -⟩ | ⟨-, hzero⟩ := solutionAt_cases m e k
  · exact absurd (List.mem_of_getElem? hr) h
  · exact hzero

/-- The vector `x` below `k`, then 1, then 0. -/
def endingInOne (k : Nat) (x : Nat → Byte) (j : Nat) : Byte := if j < k then x j else if j = k then 1 else 0

theorem dot_endingInOne {k n : Nat} (hk : k < n) (rows : List (List Byte)) (i : Nat) (x : Nat → Byte) :
    dot n rows i (endingInOne k x) = gadd (xorSum k fun j => gmul (cell rows i j) (x j)) (cell rows i k) := by
  have hafter {j : Nat} (hj : k + 1 ≤ j) : endingInOne k x j = 0 := by
    rw [endingInOne, if_neg (by omega), if_neg (by omega)]
  have hat : endingInOne k x k = 1 := by rw [endingInOne, if_neg (lt_irrefl k), if_pos rfl]
  have hbefore {j : Nat} (hj : j < k) : endingInOne k x j = x j := if_pos hj
  rw [dot, xorSum_eq_of_le (Nat.succ_le_of_lt hk) fun j hj => by rw [hafter hj, gmul_zero], xorSum_succ, hat, gmul_one,
    xorSum_congr fun j hj => by rw [hbefore hj]]

theorem endingInOne_congr {k : Nat} {x y : Nat → Byte} (h : ∀ j < k, x j = y j) : endingInOne k x = endingInOne k y := by
  funext j
  rw [endingInOne, endingInOne]
  split
  case isTrue hj => exact h j hj
  case isFalse => rfl

/-- A vector that ends in 1 at `k` is in the kernel when it makes column `k` from the columns to its left. -/
theorem inKernel_endingInOne_iff {k n : Nat} (hk : k < n) {rows : List (List Byte)} {x : Nat → Byte} :
    InKernel n rows (endingInOne k x) ↔
      ∀ i < rows.length, xorSum k (fun j => gmul (cell rows i j) (x j)) = cell rows i k := by
  simp only [InKernel, dot_endingInOne hk, gadd_eq_zero_iff]
  refine ⟨fun h i _ => h i, fun h i => ?_⟩
  by_cases hi : i < rows.length
  · exact h i hi
  · have hzero := cell_of_length_le (not_lt.1 hi)
    rw [hzero, xorSum_eq_zero fun j _ => by rw [hzero, zero_gmul]]

/-- In a row of the echelon form only its own pivot meets a non-zero unknown. -/
theorem Echelon.xorSum_solutionAt {m r p : Nat} {e : Elim} (h : Echelon e.rows e.pivots m)
    (hp : e.pivots[r]? = some p) :
    xorSum m (fun k => gmul (cell e.rows r k) (solutionAt m e k)) = cell e.rows r m := by
  have hother {k : Nat} (hne : k ≠ p) : gmul (cell e.rows r k) (solutionAt m e k) = 0 := by
    obtain ⟨q, hq, -⟩ | ⟨-, hfree⟩ := solutionAt_cases m e k
    · have hqr : r ≠ q := fun heq => hne (Option.some.inj (hq.symm.trans (heq ▸ hp)))
      rw [h.unit hq, if_neg hqr, zero_gmul]
    · rw [hfree, gmul_zero]
  have hone : cell e.rows r p = 1 := by rw [h.unit hp, if_pos rfl]
  rw [xorSum_eq_single (h.pivot_lt hp) fun k => hother, hone, one_gmul]
  obtain ⟨q, hq, hval⟩ | ⟨hfree, -⟩ := solutionAt_cases m e p
  · -- the row found by the pivot's column is `r`
    have hqr : r = q := by
      by_contra hne
      rw [h.unit hq, if_neg hne] at hone
      exact absurd hone (by decide)
    rw [hval, hqr]
  · exact absurd (List.mem_of_getElem? hp) hfree

/-- The answer, where no row below the pivots contradicts it, is a solution of the eliminated system. -/
theorem Echelon.inKernel_solutionAt {m : Nat} {e : Elim} (h : Echelon e.rows e.pivots m)
    (hcons : inconsistent m e = false) : InKernel (m + 1) e.rows (endingInOne m (solutionAt m e)) := by
  refine (inKernel_endingInOne_iff (Nat.lt_succ_self m)).2 fun i _ => ?_
  cases hp : e.pivots[i]? with
  | some p => exact h.xorSum_solutionAt hp
  | none =>
    have hi : e.pivots.length ≤ i := List.getElem?_eq_none_iff.1 hp
    have hrhs : cell e.rows i m = 0 := by
      by_contra hne
      exact Bool.false_ne_true (hcons.symm.trans (inconsistent_eq_true_iff.2 ⟨i, hi, hne⟩))
    rw [hrhs, xorSum_eq_zero fun k hk => by rw [h.below hi hk, zero_gmul]]

/-- A row below the pivots that is 0 but for its right-hand side has no solution. -/
theorem Echelon.not_inKernel_of_inconsistent {m : Nat} {e : Elim} (h : Echelon e.rows e.pivots m)
    (hinc : inconsistent m e = true) (x : Nat → Byte) : ¬ InKernel (m + 1) e.rows (endingInOne m x) := by
  obtain ⟨i, hi, hne⟩ := inconsistent_eq_true_iff.1 hinc
  intro hker
  have hdot := hker i
  rw [dot_endingInOne (Nat.lt_succ_self m), xorSum_eq_zero fun k hk => by rw [h.below hi hk, zero_gmul],
    zero_gadd] at hdot
  exact hne hdot

/-- A column made from the columns to its left has no pivot: left of its pivot a row is 0. -/
theorem Echelon.not_mem_pivots {m n k : Nat} {e : Elim} {x : Nat → Byte} (h : Echelon e.rows e.pivots m)
    (hk : k < n) (hker : InKernel n e.rows (endingInOne k x)) : k ∉ e.pivots := by
  intro hmem
  obtain ⟨r, hr⟩ := List.mem_iff_getElem?.1 hmem
  have hdot := hker r
  rw [dot_endingInOne hk, xorSum_eq_zero fun j hj => by rw [h.leading hr hj, zero_gmul], h.unit hr, if_pos rfl,
    zero_gadd] at hdot
  exact absurd hdot (by decide)

/-! ## `solve` (R100) -/

/-- The matrix `[A | b]`. -/
def augmented (a : List (List Byte)) (b : List Byte) : List (List Byte) := List.zipWith (fun row v => row ++ [v]) a b

theorem solve_eq (m : Nat) (a : List (List Byte)) (b : List Byte) :
    solve m a b =
      if inconsistent m (eliminate m (augmented a b)) then none
      else some ((List.range m).map (solutionAt m (eliminate m (augmented a b)))) := rfl

theorem solve_eq_none {m : Nat} {a : List (List Byte)} {b : List Byte} (h : solve m a b = none) :
    inconsistent m (eliminate m (augmented a b)) = true := by
  rw [solve_eq] at h
  split at h
  · assumption
  · cases h

theorem solve_eq_some {m : Nat} {a : List (List Byte)} {b x : List Byte} (h : solve m a b = some x) :
    inconsistent m (eliminate m (augmented a b)) = false ∧ x.length = m ∧
      ∀ k < m, x.getD k 0 = solutionAt m (eliminate m (augmented a b)) k := by
  rw [solve_eq] at h
  split at h
  · cases h
  · next hcons =>
    cases h
    exact ⟨Bool.eq_false_iff.2 hcons, by simp, fun k hk => by simp [hk]⟩

theorem length_augmented (a : List (List Byte)) (b : List Byte) : (augmented a b).length = min a.length b.length :=
  List.length_zipWith

theorem matRow_augmented {a : List (List Byte)} {b : List Byte} {i : Nat} (ha : i < a.length) (hb : i < b.length) :
    matRow (augmented a b) i = matRow a i ++ [b.getD i 0] := by
  simp [matRow, augmented, ha, hb]

theorem rowsOfLength_augmented {m : Nat} {a : List (List Byte)} (h : RowsOfLength m a) (b : List Byte) :
    RowsOfLength (m + 1) (augmented a b) := by
  intro row hrow
  obtain ⟨i, hi, rfl⟩ := List.mem_iff_getElem.1 hrow
  rw [length_augmented, lt_min_iff] at hi
  simp [augmented, h _ (List.getElem_mem hi.1)]

section

variable {m : Nat} {a : List (List Byte)} {b : List Byte}

theorem cell_augmented_left (ha : a.length = m) (hrows : RowsOfLength m a) (hb : b.length = m) {i k : Nat} (hi : i < m)
    (hk : k < m) : cell (augmented a b) i k = entry (matRow a i) k := by
  have hlen := hrows _ (matRow_mem (ha ▸ hi))
  rw [cell, matRow_augmented (ha ▸ hi) (hb ▸ hi), entry, List.getD_append _ _ _ _ (hlen ▸ hk), entry]

theorem cell_augmented_right (ha : a.length = m) (hrows : RowsOfLength m a) (hb : b.length = m) {i : Nat} (hi : i < m) :
    cell (augmented a b) i m = b.getD i 0 := by
  have hlen := hrows _ (matRow_mem (ha ▸ hi))
  rw [cell, matRow_augmented (ha ▸ hi) (hb ▸ hi), entry, List.getD_append_right _ _ _ _ hlen.le, hlen, Nat.sub_self]
  rfl

/-- The solutions of the system are the vectors of the kernel that end in 1 at the right-hand side. -/
theorem inKernel_augmented_iff_solves (ha : a.length = m) (hrows : RowsOfLength m a) (hb : b.length = m)
    {x : List Byte} (hx : x.length = m) :
    InKernel (m + 1) (augmented a b) (endingInOne m fun k => x.getD k 0) ↔ Solves m a b x := by
  rw [inKernel_endingInOne_iff (Nat.lt_succ_self m), length_augmented, ha, hb, min_self, Solves,
    and_iff_right hx]
  refine forall₂_congr fun i hi => ?_
  rw [cell_augmented_right ha hrows hb hi,
    xorSum_congr fun k hk => by rw [cell_augmented_left ha hrows hb hi hk]]

/-- The coefficients that make a free column, then 1, are in the kernel. -/
theorem freeColumn_iff_inKernel_augmented (ha : a.length = m) (hrows : RowsOfLength m a) (hb : b.length = m) {k : Nat}
    (hk : k < m) : FreeColumn m a k ↔ ∃ f, InKernel (m + 1) (augmented a b) (endingInOne k f) := by
  refine exists_congr fun f => ?_
  rw [inKernel_endingInOne_iff (hk.trans (Nat.lt_succ_self m)), length_augmented, ha, hb, min_self]
  refine forall₂_congr fun i hi => ?_
  have hsum : xorSum k (fun j => gmul (cell (augmented a b) i j) (f j)) =
      xorSum k fun j => gmul (entry (matRow a i) j) (f j) :=
    xorSum_congr fun j hj => by rw [cell_augmented_left ha hrows hb hi (hj.trans hk)]
  rw [cell_augmented_left ha hrows hb hi hk, hsum, eq_comm]

end

end Sys2Proof.Machine

open Sys2Proof.Machine

/-- Settles O4: every row operation keeps the kernel of `[A | b]`, and of the echelon form the answer is read off, or a
row that no vector meets. -/
theorem solveFindsASolutionOrThereIsNone : Obligations.SolveFindsASolutionOrThereIsNone := by
  intro m a b ha hrows hb
  have helim := elimAt_eliminate (rowsOfLength_augmented hrows b) m
  constructor
  · intro x hx
    obtain ⟨hcons, hlen, hval⟩ := solve_eq_some hx
    rw [← inKernel_augmented_iff_solves ha hrows hb hlen, ← helim.kernel, endingInOne_congr hval]
    exact helim.echelon.inKernel_solutionAt hcons
  · rintro hnone ⟨x, hx⟩
    have hker := (helim.kernel _).2 ((inKernel_augmented_iff_solves ha hrows hb hx.1).2 hx)
    exact helim.echelon.not_inKernel_of_inconsistent (solve_eq_none hnone) _ hker

/-- Settles O5: the kernel vector of a free column is still one of the echelon form, where no row can have its pivot
there. -/
theorem solveSetsFreeUnknownsToZero : Obligations.SolveSetsFreeUnknownsToZero := by
  intro m a b x ha hrows hb hx k hk hfree
  have helim := elimAt_eliminate (rowsOfLength_augmented hrows b) m
  obtain ⟨f, hf⟩ := (freeColumn_iff_inKernel_augmented ha hrows hb hk).1 hfree
  have hno : k ∉ (eliminate m (augmented a b)).pivots :=
    helim.echelon.not_mem_pivots (hk.trans (Nat.lt_succ_self m)) ((helim.kernel _).2 hf)
  obtain ⟨-, -, hval⟩ := solve_eq_some hx
  rw [hval k hk, solutionAt_eq_zero hno]

end

section
/-! PROOFS. The decoder family: what each micro-operation of the RS phase answers (R114, R117 to R126). -/

namespace Sys2Proof.Machine

/-! ## The syndromes (R117, R118) -/

theorem execRsSynd_of_holds {s : State} {ws : List Byte} (hlen : ws.length = s.n) (hws : Holds s 0 ws) :
    execRsSynd s = .next { s with synd := syndromes ws s.t, upc := .rsZero } := by
  rw [execRsSynd, readRun_ok.2 ⟨hlen, fun _ => by omega, hws⟩]
  rfl

theorem length_syndromes (ws : List Byte) (t : Nat) : (syndromes ws t).length = 2 * t := by simp [syndromes]

/-- The register file of the syndromes is looked up from index 1 on. -/
theorem syndAt_of_syndromes {s : State} {ws : List Byte} {t : Nat} (h : s.synd = syndromes ws t) {i : Nat} (h1 : 1 ≤ i)
    (hi : i ≤ 2 * t) : syndAt s i = syndrome ws i := by
  have hlt : i - 1 < (syndromes ws t).length := by rw [length_syndromes]; omega
  rw [syndAt, h, List.getD_eq_getElem _ _ hlt]
  simp [syndromes, Nat.sub_add_cancel h1]

/-- The condition that RS.ZERO tests. -/
theorem synd_all_zero_iff (s : State) :
    ((List.range (2 * s.t)).all fun i => syndAt s (i + 1) == 0) = true ↔
      ∀ i, 1 ≤ i → i ≤ 2 * s.t → syndAt s i = 0 := by
  simp only [List.all_eq_true, List.mem_range, beq_iff_eq]
  constructor
  · intro h i h1 hi
    rw [← Nat.sub_add_cancel h1]
    exact h (i - 1) (by omega)
  · exact fun h i hi => h (i + 1) (by omega) (by omega)

theorem execRsZero_of_zero {s : State} (h : ∀ i, 1 ≤ i → i ≤ 2 * s.t → syndAt s i = 0) :
    execRsZero s = .next { s with rsstat := .ok, upc := .seqBranch } := by
  rw [execRsZero, if_pos ((synd_all_zero_iff s).2 h)]
  rfl

theorem execRsZero_of_nonzero {s : State} {i : Nat} (h1 : 1 ≤ i) (hi : i ≤ 2 * s.t) (hne : syndAt s i ≠ 0) :
    execRsZero s = .next { s with upc := .rsLoc } := by
  rw [execRsZero, if_neg fun h => hne ((synd_all_zero_iff s).1 h i h1 hi)]
  rfl

/-! ## The locator and its roots (R119 to R122) -/

theorem execRsLoc_of_some {s : State} {r : List Byte} (h : solve s.t (locatorMatrix s) (locatorRhs s) = some r) :
    execRsLoc s = .next { s with sig := r, upc := .rsChien } := by
  rw [execRsLoc, h]
  rfl

theorem execRsLoc_of_none {s : State} (h : solve s.t (locatorMatrix s) (locatorRhs s) = none) :
    execRsLoc s = .next { s with rsstat := .unrecoverable, upc := .seqBranch } := by
  rw [execRsLoc, h]
  rfl

theorem mem_locatorRoots {sig : List Byte} {t n i : Nat} :
    i ∈ locatorRoots sig t n ↔ i < n ∧ locatorValue sig t i = 0 := by
  simp [locatorRoots]

theorem locatorRoots_ascending (sig : List Byte) (t n : Nat) : (locatorRoots sig t n).Pairwise (· < ·) :=
  List.pairwise_lt_range.filter _

theorem execRsCount_of_bad {s : State} (h : s.nroot = 0 ∨ s.t < s.nroot) :
    execRsCount s = .next { s with rsstat := .unrecoverable, upc := .seqBranch } := by
  rw [execRsCount, if_pos h]
  rfl

theorem execRsCount_of_good {s : State} (h1 : 1 ≤ s.nroot) (ht : s.nroot ≤ s.t) :
    execRsCount s = .next { s with upc := .rsMag } := by
  rw [execRsCount, if_neg (by omega)]
  rfl

/-! ## The magnitudes and the correction (R123 to R125) -/

theorem execRsMag_of_some {s : State} {r : List Byte}
    (h : solve s.nroot (magnitudeMatrix s) (magnitudeRhs s) = some r) :
    execRsMag s = .next { s with y := r, upc := .rsCorr } := by
  rw [execRsMag, h]
  rfl

theorem execRsMag_of_none {s : State} (h : solve s.nroot (magnitudeMatrix s) (magnitudeRhs s) = none) :
    execRsMag s = .next { s with rsstat := .unrecoverable, upc := .seqBranch } := by
  rw [execRsMag, h]
  rfl

/-- What the correction loop leaves: `Y[k]` is added at the stream index of `LOC[k]`, for each `k` of `ks`, and every
other cell reads as before. -/
structure Corrected (ks : List Nat) (s t : State) : Prop where
  repaired : ∀ k ∈ ks, t.cw.read (s.n - 1 - locAt s k) =
    (s.cw.read (s.n - 1 - locAt s k)).map fun b => b ^^^ yAt s k
  other : ∀ a, (∀ k ∈ ks, a ≠ s.n - 1 - locAt s k) → t.cw.read a = s.cw.read a
  frame : t = { s with cw := t.cw }

/-- The correction loop over indices whose cells are loaded and pairwise apart: no turn reads a cell that an earlier
one wrote. -/
theorem correctAll_of_distinct (ks : List Nat) {s : State} (hlt : ∀ k ∈ ks, locAt s k < s.n)
    (hapart : ks.Pairwise fun k l => s.n - 1 - locAt s k ≠ s.n - 1 - locAt s l)
    (hcell : ∀ k ∈ ks, s.cw.read (s.n - 1 - locAt s k) ≠ none) : ∃ t, correctAll ks s = .ok t ∧ Corrected ks s t := by
  induction ks generalizing s with
  | nil => exact ⟨s, rfl, by simp, fun _ _ => rfl, rfl⟩
  | cons k ks ih =>
    obtain ⟨hk, hlt⟩ := List.forall_mem_cons.1 hlt
    obtain ⟨hfirst, hapart⟩ := List.pairwise_cons.1 hapart
    obtain ⟨hck, hcell⟩ := List.forall_mem_cons.1 hcell
    obtain ⟨b, hb⟩ := Option.ne_none_iff_exists'.1 hck
    have hread : ∀ a, a ≠ s.n - 1 - locAt s k →
        (s.cw.write (s.n - 1 - locAt s k) (gadd b (yAt s k))).read a = s.cw.read a :=
      fun a ha => Mem.read_write_ne _ _ ha
    obtain ⟨t, ht, hrep, hother, hframe⟩ := ih (s := writeCw (s.n - 1 - locAt s k) (gadd b (yAt s k)) s) hlt hapart
      fun l hl => (hread _ (hfirst l hl).symm).trans_ne (hcell l hl)
    refine ⟨t, ?_, List.forall_mem_cons.2 ⟨?_, fun l hl => ?_⟩, fun a ha => ?_, hframe⟩
    · rw [correctAll, if_pos hk, readCw_ok.2 ⟨by omega, hb⟩]
      exact ht
    · rw [hother _ hfirst, hb]
      exact Mem.read_write_self _ _ _
    · rw [← hread _ (hfirst l hl).symm]
      exact hrep l hl
    · obtain ⟨hak, ha⟩ := List.forall_mem_cons.1 ha
      exact (hother a ha).trans (hread a hak)

/-- RS.CORR over distinct roots (R125). -/
theorem execRsCorr_of_distinct {s : State} (hlt : ∀ k, k < s.nroot → locAt s k < s.n)
    (hinj : ∀ k l, k < s.nroot → l < s.nroot → locAt s k = locAt s l → k = l)
    (hcell : ∀ k, k < s.nroot → s.cw.read (s.n - 1 - locAt s k) ≠ none) :
    ∃ t, execRsCorr s = .next (goto .rsEnd t) ∧ Corrected (List.range s.nroot) s t := by
  have hapart : (List.range s.nroot).Pairwise fun k l => s.n - 1 - locAt s k ≠ s.n - 1 - locAt s l := by
    refine List.pairwise_lt_range.imp_of_mem fun {k l} hk hl hkl heq => hkl.ne ?_
    have hk := List.mem_range.1 hk
    have hl := List.mem_range.1 hl
    have := hlt k hk
    have := hlt l hl
    exact hinj k l hk hl (by omega)
  obtain ⟨t, ht, hcorr⟩ := correctAll_of_distinct (List.range s.nroot) (fun k hk => hlt k (List.mem_range.1 hk)) hapart
    fun k hk => hcell k (List.mem_range.1 hk)
  exact ⟨t, by rw [execRsCorr, ht], hcorr⟩

/-! ## A run of the RS phase -/

/-- With no host event a run takes the micro-operation at the sequencer position first. -/
theorem run_rs_succ {s t : State} {i : Sys2Proof.Instr} (k : Nat) (hp : s.phase = .rs) (hq : s.host = [])
    (hi : s.upc.instr = some i) (h : exec i s = .next t) :
    Host.Core.run Sys2Proof.core (k + 1) s = Host.Core.run Sys2Proof.core k t := by
  rw [core_run_succ, step_of_fetch hq (busy_of_rs hp) (fetch_of_instr hi), h]

theorem run_zero (s : State) : Host.Core.run Sys2Proof.core 0 s = .next s := rfl

/-- A stream whose syndromes are all zero leaves the RS phase at RS.ZERO (R118); for `t = 0` there is none (R114). -/
theorem run_two_of_zero_syndromes {s : State} {ws : List Byte} (hp : s.phase = .rs) (hu : s.upc = .rsSynd)
    (hq : s.host = []) (hlen : ws.length = s.n) (hws : Holds s 0 ws)
    (hzero : ∀ i, 1 ≤ i → i ≤ 2 * s.t → syndrome ws i = 0) : Host.Core.run Sys2Proof.core 2 s =
      .next { s with synd := syndromes ws s.t, rsstat := .ok, upc := .seqBranch } := by
  rw [run_rs_succ (i := .rsSynd) 1 hp hq (hu ▸ rfl) (execRsSynd_of_holds hlen hws)]
  refine run_rs_succ (i := .rsZero) 0 hp hq rfl (execRsZero_of_zero fun i h1 hi => ?_)
  rw [syndAt_of_syndromes rfl h1 hi]
  exact hzero i h1 hi

end Sys2Proof.Machine

open Sys2Proof.Machine

/-- Settles O19. -/
theorem rsSyndComputesTheSyndromes : Obligations.RsSyndComputesTheSyndromes := by
  refine fun s ws hlen hws => ⟨_, execRsSynd_of_holds hlen hws, rfl, length_syndromes ws s.t, fun i h1 hi => ?_⟩
  rw [syndAt_of_syndromes rfl h1 hi, syndrome, hlen]

/-- Settles O20. -/
theorem rsZeroReturnsOkOnZeroSyndromes : Obligations.RsZeroReturnsOkOnZeroSyndromes := fun _ =>
  ⟨execRsZero_of_zero, fun ⟨_, h1, hi, hne⟩ => execRsZero_of_nonzero h1 hi hne⟩

/-- Settles O21. -/
theorem rsLocSolvesTheLocatorSystem : Obligations.RsLocSolvesTheLocatorSystem := fun _ =>
  ⟨fun _ => execRsLoc_of_some, execRsLoc_of_none⟩

/-- Settles O22. -/
theorem rsChienFindsExactlyTheRoots : Obligations.RsChienFindsExactlyTheRoots := fun _ =>
  ⟨_, rfl, rfl, rfl, locatorRoots_ascending _ _ _, fun _ => mem_locatorRoots⟩

/-- Settles O23. -/
theorem rsCountChecksTheRootCount : Obligations.RsCountChecksTheRootCount := fun _ =>
  ⟨execRsCount_of_bad, execRsCount_of_good⟩

/-- Settles O24. -/
theorem rsMagSolvesTheMagnitudeSystem : Obligations.RsMagSolvesTheMagnitudeSystem := fun _ =>
  ⟨fun _ => execRsMag_of_some, execRsMag_of_none⟩

/-- Settles O25: positions below `n` that are distinct have distinct stream indices, so the turns of the loop do not
meet. -/
theorem rsCorrAddsTheMagnitudes : Obligations.RsCorrAddsTheMagnitudes := by
  intro s hlt hinj hcell
  obtain ⟨t, ht, hrep, hother, hframe⟩ := execRsCorr_of_distinct hlt hinj hcell
  refine ⟨goto .rsEnd t, ht, by rw [hframe]; rfl, fun k hk => hrep k (List.mem_range.2 hk), fun a ha => ?_⟩
  exact hother a fun k hk => ha k (List.mem_range.1 hk)

/-- Settles O26. -/
theorem rsEndReportsRepaired : Obligations.RsEndReportsRepaired := fun _ => ⟨_, rfl, rfl⟩

/-- Settles O27. -/
theorem zeroSyndromeStreamIsOk : Obligations.ZeroSyndromeStreamIsOk := fun _ _ hp hu hq hlen hws hzero =>
  ⟨_, run_two_of_zero_syndromes hp hu hq hlen hws hzero, rfl⟩

end

section
/-! PROOFS. The decoder family: what distinct positions give (R127): the two Vandermonde arguments, and a combination of
powers that is 1 at every position. -/

namespace Sys2Proof.Machine

/-! ## The Bytes read as a field of the library (R90, R99) -/

/-- The Bytes are the elements of the field `F`, with `gadd` and `gmul` for its sum and product. -/
structure FieldReading {F : Type} [Field F] (φ : Byte ≃ F) : Prop where
  map_gadd : ∀ a b, φ (gadd a b) = φ a + φ b
  map_gmul : ∀ a b, φ (gmul a b) = φ a * φ b
  map_one : φ 1 = 1

/-- The field that the Bytes are; it is named where it is meant, since a Byte has the arithmetic of 8-bit numbers
too. -/
abbrev byteField : Field Byte :=
  @Field.ofMinimalAxioms Byte ⟨gadd⟩ ⟨gmul⟩ ⟨id⟩ ⟨fun a => if a = 0 then 0 else ginv a⟩ ⟨0⟩ ⟨1⟩ gadd_assoc zero_gadd
    gadd_self gmul_assoc gmul_comm one_gmul (fun a ha => (congrArg (gmul a) (if_neg ha)).trans (gmul_ginv ha))
    (if_pos rfl) gmul_gadd ⟨0, 1, by decide⟩

theorem exists_fieldReading : ∃ (F : Type) (_ : Field F) (φ : Byte ≃ F), FieldReading φ :=
  ⟨Byte, byteField, Equiv.refl Byte, @FieldReading.mk Byte byteField _ (fun _ _ => rfl) (fun _ _ => rfl) rfl⟩

theorem apow_zero : apow 0 = 1 := rfl

theorem apow_ne_zero (e : Int) : apow e ≠ 0 := alphaTo_ne_zero (by omega)

namespace FieldReading

variable {F : Type} [Field F] {φ : Byte ≃ F}

theorem map_zero (h : FieldReading φ) : φ 0 = 0 := by
  have hsum := h.map_gadd 0 0
  rwa [gadd_zero, left_eq_add] at hsum

theorem map_xorSum (h : FieldReading φ) (k : Nat) (f : Nat → Byte) : φ (xorSum k f) = ∑ j : Fin k, φ (f j) := by
  induction k with
  | zero => exact h.map_zero
  | succ k ih => simp [xorSum_succ, h.map_gadd, ih, Fin.sum_univ_castSucc]

theorem map_apow_mul (h : FieldReading φ) (e : Int) (i : Nat) : φ (apow (e * i)) = φ (apow e) ^ i := by
  induction i with
  | zero => rw [Nat.cast_zero, mul_zero, apow_zero, h.map_one, pow_zero]
  | succ i ih => rw [Nat.cast_succ, mul_add_one, apow_add, h.map_gmul, ih, pow_succ]

end FieldReading

/-! ## Positions that powers tell apart (R99) -/

/-- The first `v` positions of `p` belong to different powers. -/
def Apart (v : Nat) (p : Nat → Int) : Prop := ∀ k l, k < v → l < v → apow (p k) = apow (p l) → k = l

theorem Apart.injective {v : Nat} {p : Nat → Int} (hp : Apart v p) {F : Type} (φ : Byte ≃ F) :
    Function.Injective fun k : Fin v => φ (apow (p k)) :=
  fun k l h => Fin.ext (hp k l k.isLt l.isLt (φ.injective h))

section
variable {v : Nat} {p : Nat → Int} {c : Nat → Byte}

/-- Only the zero combination of the positions has its first `v` power sums 0. -/
theorem Apart.eq_zero_of_power_sums (hp : Apart v p)
    (h : ∀ i < v, xorSum v (fun k => gmul (c k) (apow (p k * (i : Nat)))) = 0) : ∀ k < v, c k = 0 := by
  obtain ⟨F, _, φ, hφ⟩ := exists_fieldReading
  have hzero : (fun k : Fin v => φ (c k)) = 0 :=
    Matrix.eq_zero_of_forall_pow_sum_mul_pow_eq_zero (hp.injective φ) fun i => by
      simpa only [hφ.map_xorSum, hφ.map_gmul, hφ.map_apow_mul, hφ.map_zero] using congrArg φ (h i i.isLt)
  exact fun k hk => φ.injective ((congrFun hzero ⟨k, hk⟩).trans hφ.map_zero.symm)

/-- A polynomial with `v` coefficients that is 0 at `v` positions is 0. -/
theorem Apart.eq_zero_of_values (hp : Apart v p)
    (h : ∀ k < v, xorSum v (fun j => gmul (c j) (apow (p k * (j : Nat)))) = 0) : ∀ j < v, c j = 0 := by
  obtain ⟨F, _, φ, hφ⟩ := exists_fieldReading
  have hzero : (fun j : Fin v => φ (c j)) = 0 :=
    Matrix.eq_zero_of_forall_index_sum_mul_pow_eq_zero (hp.injective φ) fun k => by
      simpa only [hφ.map_xorSum, hφ.map_gmul, hφ.map_apow_mul, hφ.map_zero] using congrArg φ (h k k.isLt)
  exact fun j hj => φ.injective ((congrFun hzero ⟨j, hj⟩).trans hφ.map_zero.symm)

/-- Some polynomial with `v` coefficients takes given values at the `v` positions. -/
theorem Apart.exists_values (hp : Apart v p) (b : Nat → Byte) : ∃ g : Nat → Byte, (∀ j, v ≤ j → g j = 0) ∧
    ∀ k < v, xorSum v (fun j => gmul (g j) (apow (p k * (j : Nat)))) = b k := by
  obtain ⟨F, _, φ, hφ⟩ := exists_fieldReading
  have hunit : IsUnit (Matrix.vandermonde fun k : Fin v => φ (apow (p k))) :=
    (Matrix.isUnit_iff_isUnit_det _).2 (Matrix.det_vandermonde_ne_zero_iff.2 (hp.injective φ)).isUnit
  obtain ⟨g, hg⟩ := Matrix.mulVec_surjective_iff_isUnit.2 hunit fun k : Fin v => φ (b k)
  refine ⟨fun j => if hj : j < v then φ.symm (g ⟨j, hj⟩) else 0, fun j hj => dif_neg (by omega), fun k hk => ?_⟩
  refine φ.injective (Eq.trans ?_ (congrFun hg ⟨k, hk⟩))
  simp [hφ.map_xorSum, hφ.map_gmul, hφ.map_apow_mul, Matrix.mulVec, dotProduct, mul_comm]

/-- Some combination of the first `v` powers of each position is 1 at every position. -/
theorem Apart.exists_combination (hp : Apart v p) : ∃ g : Nat → Byte, (∀ j, v ≤ j → g j = 0) ∧
    ∀ k < v, xorSum v (fun j => gmul (g j) (apow (p k * ((j + 1 : Nat) : Int)))) = 1 := by
  obtain ⟨g, htail, hg⟩ := hp.exists_values fun k => apow (-p k)
  refine ⟨g, htail, fun k hk => ?_⟩
  calc xorSum v (fun j => gmul (g j) (apow (p k * ((j + 1 : Nat) : Int))))
    _ = xorSum v (fun j => gmul (apow (p k)) (gmul (g j) (apow (p k * (j : Nat))))) := by
      refine xorSum_congr fun j _ => ?_
      rw [← gmul_assoc, gmul_comm (apow (p k)), gmul_assoc, ← apow_add]
      congr 2
      push_cast
      ring
    _ = gmul (apow (p k)) (apow (-p k)) := by rw [← gmul_xorSum, hg k hk]
    _ = 1 := by rw [← apow_add, add_neg_cancel, apow_zero]

end

end Sys2Proof.Machine
end

section
/-! PROOFS. The decoder family: the syndromes of an error pattern, and what the two systems and the root search make of
them (R119, R121, R123, R127). -/

namespace Sys2Proof.Machine

/-! ## `xorSum` of sums -/

theorem xorSum_comm (k l : Nat) (f : Nat → Nat → Byte) :
    xorSum k (fun i => xorSum l fun j => f i j) = xorSum l fun j => xorSum k fun i => f i j := by
  induction k with
  | zero => exact (xorSum_eq_zero fun _ _ => rfl).symm
  | succ k ih => simp only [xorSum_succ, xorSum_gadd, ih]

theorem xorSum_gmul (k : Nat) (f : Nat → Byte) (c : Byte) : gmul (xorSum k f) c = xorSum k fun j => gmul (f j) c := by
  simp only [gmul_comm _ c, gmul_xorSum]

theorem xorSum_succ_left (k : Nat) (f : Nat → Byte) : xorSum (k + 1) f = gadd (f 0) (xorSum k fun j => f (j + 1)) := by
  simp [xorSum, List.range_succ_eq_map, xorAll, Function.comp_def]

theorem xorSum_reflect (k : Nat) (f : Nat → Byte) : xorSum k (fun j => f (k - 1 - j)) = xorSum k f := by
  induction k with
  | zero => rfl
  | succ k ih =>
    rw [xorSum_succ_left, xorSum_succ, ← ih, gadd_comm]
    exact congrArg (gadd · _) (xorSum_congr fun j _ => by congr 1; omega)

/-! ## A matrix by its entries -/

theorem length_matrixOf (m : Nat) (f : Nat → Nat → Byte) : (matrixOf m f).length = m := by simp [matrixOf]

theorem rowsOfLength_matrixOf (m : Nat) (f : Nat → Nat → Byte) : RowsOfLength m (matrixOf m f) := by
  simp [RowsOfLength, matrixOf]

theorem entry_matrixOf {m i k : Nat} (hi : i < m) (hk : k < m) (f : Nat → Nat → Byte) :
    entry (matRow (matrixOf m f) i) k = f i k := by
  simp [entry, matRow, matrixOf, List.getD_eq_getElem?_getD, hi, hk]

theorem getD_map_range {m i : Nat} (hi : i < m) (f : Nat → Byte) : ((List.range m).map f).getD i 0 = f i := by
  simp [List.getD_eq_getElem?_getD, hi]

theorem solves_matrixOf_iff {m : Nat} {f : Nat → Nat → Byte} {b : Nat → Byte} {x : List Byte} :
    Solves m (matrixOf m f) ((List.range m).map b) x ↔
      x.length = m ∧ ∀ i < m, xorSum m (fun k => gmul (f i k) (x.getD k 0)) = b i := by
  refine and_congr_right fun _ => forall₂_congr fun i hi => ?_
  rw [getD_map_range hi, xorSum_congr fun k hk => by rw [entry_matrixOf hi hk]]

theorem freeColumn_matrixOf_iff {m k : Nat} (hk : k < m) {f : Nat → Nat → Byte} :
    FreeColumn m (matrixOf m f) k ↔ ∃ g : Nat → Byte, ∀ i < m, f i k = xorSum k fun j => gmul (f i j) (g j) := by
  refine exists_congr fun g => forall₂_congr fun i hi => ?_
  rw [entry_matrixOf hi hk, xorSum_congr fun j hj => by rw [entry_matrixOf hi (hj.trans hk)]]

/-- A system given by its entries that has a solution is answered, with a solution in which the free unknowns are 0. -/
theorem solve_matrixOf {m : Nat} {f : Nat → Nat → Byte} {b : Nat → Byte} {x : List Byte}
    (hx : Solves m (matrixOf m f) ((List.range m).map b) x) :
    ∃ r, solve m (matrixOf m f) ((List.range m).map b) = some r ∧ Solves m (matrixOf m f) ((List.range m).map b) r ∧
      ∀ k < m, FreeColumn m (matrixOf m f) k → r.getD k 0 = 0 := by
  obtain ⟨hsome, hnone⟩ := solveFindsASolutionOrThereIsNone m (matrixOf m f) ((List.range m).map b)
    (length_matrixOf m f) (rowsOfLength_matrixOf m f) (by simp)
  cases hr : solve m (matrixOf m f) ((List.range m).map b) with
  | none => exact absurd ⟨x, hx⟩ (hnone hr)
  | some r =>
    exact ⟨r, rfl, hsome r hr, solveSetsFreeUnknownsToZero m _ _ r (length_matrixOf m f) (rowsOfLength_matrixOf m f)
      (by simp) hr⟩

/-! ## Error patterns -/

/-- The sum over the first `v` positions of `e k` times the `i`-th power of the position's locator (R127). -/
def powerSum (v : Nat) (p : Nat → Nat) (e : Nat → Byte) (i : Nat) : Byte :=
  xorSum v fun k => gmul (e k) (apow ((p k * i : Nat) : Int))

theorem powerSum_eq_zero {v : Nat} {p : Nat → Nat} {e : Nat → Byte} {i : Nat} (h : ∀ k < v, e k = 0) :
    powerSum v p e i = 0 :=
  xorSum_eq_zero fun k hk => by rw [h k hk, zero_gmul]

/-- A combination of powers that is 1 at every position writes each power sum by the next `v` ones. -/
theorem powerSum_eq_combination {v : Nat} {p : Nat → Nat} {g : Nat → Byte}
    (hg : ∀ k < v, xorSum v (fun j => gmul (g j) (apow (p k * ((j + 1 : Nat) : Int)))) = 1) (e : Nat → Byte) (i : Nat) :
    powerSum v p e i = xorSum v fun j => gmul (powerSum v p e (i + (j + 1))) (g j) := by
  simp only [powerSum, xorSum_gmul]
  rw [xorSum_comm]
  refine xorSum_congr fun k hk => ?_
  calc gmul (e k) (apow ((p k * i : Nat) : Int))
    _ = gmul (gmul (e k) (apow ((p k * i : Nat) : Int)))
          (xorSum v fun j => gmul (g j) (apow (p k * ((j + 1 : Nat) : Int)))) := by rw [hg k hk, gmul_one]
    _ = xorSum v fun j => gmul (gmul (e k) (apow ((p k * (i + (j + 1)) : Nat) : Int))) (g j) := by
      rw [gmul_xorSum]
      refine xorSum_congr fun j _ => ?_
      rw [gmul_comm (g j), ← gmul_assoc, gmul_assoc (e k), ← apow_add]
      push_cast
      simp only [mul_add]

/-- `v` errors with values `e k` at distinct positions `p k` of a stream of at most 255 codewords. -/
structure ErrorPattern (v : Nat) (p : Nat → Nat) (e : Nat → Byte) : Prop where
  lt : ∀ k < v, p k < 255
  distinct : ∀ k l, k < v → l < v → p k = p l → k = l
  ne_zero : ∀ k < v, e k ≠ 0

section
variable {v t : Nat} {p : Nat → Nat} {e : Nat → Byte}

/-- Positions below 255 belong to different powers. -/
theorem apart_of_distinct (hlt : ∀ k < v, p k < 255) (hdist : ∀ k l, k < v → l < v → p k = p l → k = l) :
    Apart v fun k => p k := by
  intro k l hk hl h
  have := hlt k hk
  have := hlt l hl
  have : (p k : Int) % 255 = p l % 255 := apow_eq_apow_iff.1 h
  exact hdist k l hk hl (by omega)

theorem Apart.neg {p : Nat → Int} (hp : Apart v p) : Apart v fun k => -p k := by
  intro k l hk hl h
  have : -p k % 255 = -p l % 255 := apow_eq_apow_iff.1 h
  exact hp k l hk hl (apow_eq_apow_iff.2 (by omega))

theorem ErrorPattern.apart (h : ErrorPattern v p e) : Apart v fun k => p k := apart_of_distinct h.lt h.distinct

/-- Only the zero combination of the positions has `v` power sums in a row that are 0. -/
theorem ErrorPattern.eq_zero_of_window (h : ErrorPattern v p e) {c : Nat → Byte} (a : Nat)
    (hc : ∀ i < v, powerSum v p c (a + i) = 0) : ∀ k < v, c k = 0 := by
  have hprod := h.apart.eq_zero_of_power_sums (c := fun k => gmul (c k) (apow ((p k * a : Nat) : Int))) fun i hi => by
    rw [← hc i hi]
    refine xorSum_congr fun k _ => ?_
    rw [gmul_assoc, ← apow_add]
    push_cast
    rw [mul_add]
  exact fun k hk => (gmul_eq_zero_iff.1 (hprod k hk)).resolve_right (apow_ne_zero _)

/-- At least one of the first `v` syndromes of `v` errors is not 0. -/
theorem ErrorPattern.exists_syndrome_ne_zero (h : ErrorPattern v p e) (hv : 1 ≤ v) :
    ∃ i, 1 ≤ i ∧ i ≤ v ∧ powerSum v p e i ≠ 0 := by
  by_contra! hall
  exact h.ne_zero 0 hv (h.eq_zero_of_window 1 (fun i hi => hall (1 + i) (by omega) (by omega)) 0 hv)

/-! ## The locator system (R119) -/

/-- By how much power sums miss the recurrence of a locator: each position counts with the locator's value there. -/
theorem gadd_powerSum_recurrence (v : Nat) (p : Nat → Nat) (e : Nat → Byte) (sig : List Byte) {u a : Nat} (hu : u ≤ a) :
    gadd (powerSum v p e a) (xorSum u fun j => gmul (powerSum v p e (a - (j + 1))) (sig.getD j 0)) =
      powerSum v p (fun k => gmul (e k) (locatorValue sig u (p k))) a := by
  have hterm : ∀ k j, j < u → gmul (gmul (e k) (apow ((p k * (a - (j + 1)) : Nat) : Int))) (sig.getD j 0) =
      gmul (gmul (e k) (gmul (sig.getD j 0) (apow (-((p k * j + p k : Nat) : Int))))) (apow ((p k * a : Nat) : Int)) := by
    intro k j hj
    have hexp : ((p k * (a - (j + 1)) : Nat) : Int) = -((p k * j + p k : Nat) : Int) + (p k * a : Nat) := by
      push_cast [show j + 1 ≤ a by omega]
      ring
    rw [hexp, apow_add, gmul_comm _ (sig.getD j 0)]
    simp only [← gmul_assoc, gmul_comm (sig.getD j 0) (e k)]
  calc gadd (powerSum v p e a) (xorSum u fun j => gmul (powerSum v p e (a - (j + 1))) (sig.getD j 0))
    _ = gadd (powerSum v p e a) (xorSum v fun k => xorSum u fun j =>
          gmul (gmul (e k) (apow ((p k * (a - (j + 1)) : Nat) : Int))) (sig.getD j 0)) := by
      simp only [powerSum, xorSum_gmul, xorSum_comm u v]
    _ = powerSum v p (fun k => gmul (e k) (locatorValue sig u (p k))) a := by
      simp only [powerSum, locatorValue, gmul_gadd, gadd_gmul, gmul_one, xorSum_gadd, gmul_xorSum, xorSum_gmul]
      exact congrArg _ (xorSum_congr fun k _ => xorSum_congr fun j hj => hterm k j hj)

/-- The list `S[1 .. 2t]` of the model holds the power sums of the pattern. -/
def IsSyndromes (t v : Nat) (p : Nat → Nat) (e : Nat → Byte) (S : Nat → Byte) : Prop :=
  ∀ i, 1 ≤ i → i ≤ 2 * t → S i = powerSum v p e i

variable {S : Nat → Byte}

/-- The solutions of the locator system are the locators that have a root at every position in error. -/
theorem ErrorPattern.solves_locator_iff (h : ErrorPattern v p e) (hv : v ≤ t) (hS : IsSyndromes t v p e S)
    {x : List Byte} :
    Solves t (matrixOf t fun i k => S (t + i - k)) ((List.range t).map fun i => S (t + i + 1)) x ↔
      x.length = t ∧ ∀ k < v, locatorValue x t (p k) = 0 := by
  have hrow : ∀ i < t, xorSum t (fun k => gmul (S (t + i - k)) (x.getD k 0)) = S (t + i + 1) ↔
      powerSum v p (fun k => gmul (e k) (locatorValue x t (p k))) (t + 1 + i) = 0 := by
    intro i hi
    rw [← gadd_powerSum_recurrence v p e x (by omega), gadd_eq_zero_iff, Nat.add_right_comm t 1 i,
      hS (t + i + 1) (by omega) (by omega), eq_comm]
    refine Eq.congr_right (xorSum_congr fun k hk => ?_)
    rw [hS (t + i - k) (by omega) (by omega), Nat.add_sub_add_right]
  rw [solves_matrixOf_iff]
  refine and_congr_right fun _ => ⟨fun hrows => ?_, fun hroots i hi => ?_⟩
  · have hprod := h.eq_zero_of_window (t + 1) fun i hi => (hrow i (by omega)).1 (hrows i (by omega))
    exact fun k hk => (gmul_eq_zero_iff.1 (hprod k hk)).resolve_left (h.ne_zero k hk)
  · exact (hrow i hi).2 (powerSum_eq_zero fun k hk => by rw [hroots k hk, gmul_zero])

/-- A locator of degree at most `v` with a root at each of the `v` positions. -/
theorem ErrorPattern.exists_locator (h : ErrorPattern v p e) (hv : v ≤ t) :
    ∃ x : List Byte, x.length = t ∧ ∀ k < v, locatorValue x t (p k) = 0 := by
  obtain ⟨g, htail, hg⟩ := h.apart.neg.exists_combination
  refine ⟨(List.range t).map g, by simp, fun k hk => gadd_eq_zero_iff.2 ?_⟩
  rw [← hg k hk, ← xorSum_eq_of_le hv fun j hj => by rw [htail j hj, zero_gmul]]
  refine xorSum_congr fun j hj => ?_
  rw [getD_map_range hj]
  congr 2
  push_cast
  ring

/-- With `v` errors the columns from `v` on are combinations of the columns to their left (R101). -/
theorem ErrorPattern.freeColumn_locator (h : ErrorPattern v p e) (hS : IsSyndromes t v p e S) {k : Nat} (hvk : v ≤ k)
    (hk : k < t) : FreeColumn t (matrixOf t fun i k => S (t + i - k)) k := by
  obtain ⟨g, htail, hg⟩ := h.apart.exists_combination
  refine (freeColumn_matrixOf_iff hk).2 ⟨fun j => g (k - 1 - j), fun i hi => ?_⟩
  calc S (t + i - k)
    _ = powerSum v p e (t + i - k) := hS _ (by omega) (by omega)
    _ = xorSum v fun j => gmul (powerSum v p e (t + i - k + (j + 1))) (g j) := powerSum_eq_combination hg e _
    _ = xorSum k fun j => gmul (powerSum v p e (t + i - k + (j + 1))) (g j) :=
      (xorSum_eq_of_le hvk fun j hj => by rw [htail j hj, gmul_zero]).symm
    _ = xorSum k fun j => gmul (S (t + i - j)) (g (k - 1 - j)) := by
      rw [← xorSum_reflect]
      refine xorSum_congr fun j hj => ?_
      rw [hS _ (by omega) (by omega), show t + i - k + (k - 1 - j + 1) = t + i - j by omega]

/-- The locator that RS.LOC writes has a root at every position in error, and its coefficients from `v` on are 0. -/
theorem ErrorPattern.solve_locator (h : ErrorPattern v p e) (hv : v ≤ t) (hS : IsSyndromes t v p e S) :
    ∃ r, solve t (matrixOf t fun i k => S (t + i - k)) ((List.range t).map fun i => S (t + i + 1)) = some r ∧
      (∀ k, v ≤ k → r.getD k 0 = 0) ∧ ∀ k < v, locatorValue r t (p k) = 0 := by
  obtain ⟨x, hx⟩ := h.exists_locator hv
  obtain ⟨r, hr, hsolves, hfree⟩ := solve_matrixOf ((h.solves_locator_iff hv hS).2 hx)
  obtain ⟨hlen, hroots⟩ := (h.solves_locator_iff hv hS).1 hsolves
  refine ⟨r, hr, fun k hk => ?_, hroots⟩
  by_cases hkt : k < t
  · exact hfree k hkt (h.freeColumn_locator hS hk hkt)
  · exact List.getD_eq_default _ _ (by omega)

/-! ## The root search (R121) -/

/-- A locator as a polynomial with the constant term 1. -/
theorem locatorValue_eq_xorSum (sig : List Byte) (t i : Nat) :
    locatorValue sig t i = xorSum (t + 1) fun j => gmul ((1 :: sig).getD j 0) (apow (-(i : Int) * (j : Nat))) := by
  rw [xorSum_succ_left, locatorValue]
  refine congrArg₂ gadd (by rw [Nat.cast_zero, mul_zero]; rfl) (xorSum_congr fun j _ => ?_)
  rw [List.getD_cons_succ]
  congr 2
  push_cast
  ring

/-- A locator of degree at most `v` has at most `v` roots among the positions below 255, so those in error are all. -/
theorem ErrorPattern.locatorValue_eq_zero_iff (h : ErrorPattern v p e) (hv : v ≤ t) {r : List Byte}
    (htail : ∀ k, v ≤ k → r.getD k 0 = 0) (hroots : ∀ k < v, locatorValue r t (p k) = 0) {i : Nat} (hi : i < 255) :
    locatorValue r t i = 0 ↔ ∃ k < v, p k = i := by
  refine ⟨fun hzero => ?_, fun ⟨k, hk, hki⟩ => hki ▸ hroots k hk⟩
  by_contra! hother
  have happart : Apart (v + 1) fun k => ((if k < v then p k else i : Nat) : Int) := by
    refine apart_of_distinct (fun k _ => ?_) fun k l hk hl heq => ?_
    · split
      · exact h.lt k ‹_›
      · exact hi
    · split at heq <;> split at heq
      · exact h.distinct k l ‹_› ‹_› heq
      · exact absurd heq (hother k ‹_›)
      · exact absurd heq.symm (hother l ‹_›)
      · omega
  have hvalues : ∀ k < v + 1, locatorValue r t (if k < v then p k else i) = 0 := by
    intro k _
    split
    · exact hroots k ‹_›
    · exact hzero
  have hcoeff := happart.neg.eq_zero_of_values (c := fun j => (1 :: r).getD j 0) fun k hk => by
    refine Eq.trans ?_ ((locatorValue_eq_xorSum _ _ _).symm.trans (hvalues k hk))
    refine (xorSum_eq_of_le (by omega) fun j hj => ?_).symm
    obtain ⟨j, rfl⟩ := Nat.exists_eq_add_of_le' (show 1 ≤ j by omega)
    rw [List.getD_cons_succ, htail j (by omega), zero_gmul]
  exact absurd (hcoeff 0 (by omega)) (by simp)

/-! ## The magnitude system (R123) -/

/-- The magnitudes that RS.MAG writes are the values of the errors. -/
theorem ErrorPattern.solve_magnitudes (h : ErrorPattern v p e) (hv : v ≤ 2 * t) (hS : IsSyndromes t v p e S) :
    ∃ y, solve v (matrixOf v fun i k => apow ((p k * (i + 1) : Nat) : Int)) ((List.range v).map fun i => S (i + 1)) =
      some y ∧ ∀ k < v, y.getD k 0 = e k := by
  have hsolves : ∀ x : List Byte, Solves v (matrixOf v fun i k => apow ((p k * (i + 1) : Nat) : Int))
      ((List.range v).map fun i => S (i + 1)) x ↔ x.length = v ∧ ∀ k < v, x.getD k 0 = e k := by
    intro x
    have hrow : ∀ i < v, xorSum v (fun k => gmul (apow ((p k * (i + 1) : Nat) : Int)) (x.getD k 0)) = S (i + 1) ↔
        powerSum v p (fun k => gadd (x.getD k 0) (e k)) (1 + i) = 0 := by
      intro i hi
      rw [hS (i + 1) (by omega) (by omega), ← gadd_eq_zero_iff, Nat.add_comm 1 i]
      simp only [powerSum, gadd_gmul, xorSum_gadd, gmul_comm (apow _)]
    rw [solves_matrixOf_iff]
    refine and_congr_right fun _ => ⟨fun hrows k hk => ?_, fun heq i hi => ?_⟩
    · exact gadd_eq_zero_iff.1 (h.eq_zero_of_window 1 (fun i hi => (hrow i hi).1 (hrows i hi)) k hk)
    · exact (hrow i hi).2 (powerSum_eq_zero fun k hk => by rw [heq k hk, gadd_self])
  obtain ⟨y, hy, hans, -⟩ := solve_matrixOf ((hsolves ((List.range v).map e)).2
    ⟨by simp, fun k hk => getD_map_range hk e⟩)
  exact ⟨y, hy, ((hsolves y).1 hans).2⟩

end

end Sys2Proof.Machine
end

section
/-! PROOFS. The decoder family: up to `t` wrong codewords in a stream of at most 255 are corrected (R127). -/

namespace Sys2Proof.Machine

/-! ## The positions in error -/

/-- The positions below `n` at which the error polynomial has a coefficient, ascending. -/
def errorPositions (n : Nat) (d : Nat → Byte) : List Nat := (List.range n).filter fun j => d j != 0

/-- `errorPositions`, read as the register file `LOC` is. -/
def errorPos (n : Nat) (d : Nat → Byte) (k : Nat) : Nat := (errorPositions n d).getD k 0

section
variable {n : Nat} {d : Nat → Byte}

theorem mem_errorPositions {j : Nat} : j ∈ errorPositions n d ↔ j < n ∧ d j ≠ 0 := by simp [errorPositions]

theorem errorPos_mem {k : Nat} (hk : k < (errorPositions n d).length) : errorPos n d k ∈ errorPositions n d := by
  rw [errorPos, List.getD_eq_getElem _ _ hk]
  exact List.getElem_mem hk

theorem exists_errorPos {j : Nat} (hj : j < n) (hd : d j ≠ 0) :
    ∃ k < (errorPositions n d).length, errorPos n d k = j := by
  obtain ⟨k, hk, hkj⟩ := List.getElem_of_mem (mem_errorPositions.2 ⟨hj, hd⟩)
  exact ⟨k, hk, (List.getD_eq_getElem _ _ hk).trans hkj⟩

theorem errorPos_distinct {k l : Nat} (hk : k < (errorPositions n d).length) (hl : l < (errorPositions n d).length)
    (h : errorPos n d k = errorPos n d l) : k = l := by
  rw [errorPos, errorPos, List.getD_eq_getElem _ _ hk, List.getD_eq_getElem _ _ hl] at h
  exact (List.nodup_range.filter _).getElem_inj_iff.1 h

theorem errorPattern_of_positions (hn : n ≤ 255) (d : Nat → Byte) :
    ErrorPattern (errorPositions n d).length (errorPos n d) fun k => d (errorPos n d k) where
  lt _ hk := (mem_errorPositions.1 (errorPos_mem hk)).1.trans_le hn
  distinct _ _ := errorPos_distinct
  ne_zero _ hk := (mem_errorPositions.1 (errorPos_mem hk)).2

theorem xorAll_map_filter {l : List Nat} {q : Nat → Bool} {f : Nat → Byte} (h : ∀ j, q j = false → f j = 0) :
    xorAll ((l.filter q).map f) = xorAll (l.map f) := by
  induction l with
  | nil => rfl
  | cons j l ih =>
    cases hq : q j with
    | true => rw [List.filter_cons_of_pos hq]; exact congrArg (gadd (f j)) ih
    | false =>
      rw [List.filter_cons_of_neg (by simp [hq]), ih]
      exact ((congrArg (gadd · _) (h j hq)).trans (zero_gadd _)).symm

theorem xorAll_map (l : List Nat) (f : Nat → Byte) : xorAll (l.map f) = xorSum l.length fun k => f (l.getD k 0) := by
  refine congrArg xorAll (List.ext_getElem (by simp) fun k hk _ => ?_)
  have hk : k < l.length := by simpa using hk
  simp [List.getD_eq_getElem?_getD, hk]

/-- Only the positions in error contribute to the value of the error polynomial. -/
theorem powerSum_errorPositions (n : Nat) (d : Nat → Byte) (i : Nat) : powerSum n id d i =
    powerSum (errorPositions n d).length (errorPos n d) (fun k => d (errorPos n d k)) i := by
  refine Eq.trans ?_ (xorAll_map (errorPositions n d) fun j => gmul (d j) (apow ((j * i : Nat) : Int)))
  exact (xorAll_map_filter fun j hj => by rw [(bne_eq_false_iff_eq).1 hj, zero_gmul]).symm

/-- A locator whose roots are the positions in error is searched right. -/
theorem locatorRoots_eq_errorPositions (hn : n ≤ 255) {t : Nat} (hv : (errorPositions n d).length ≤ t) {r : List Byte}
    (htail : ∀ k, (errorPositions n d).length ≤ k → r.getD k 0 = 0)
    (hroots : ∀ k < (errorPositions n d).length, locatorValue r t (errorPos n d k) = 0) :
    locatorRoots r t n = errorPositions n d := by
  refine List.filter_congr fun j hj => ?_
  have hj := List.mem_range.1 hj
  have hiff := (errorPattern_of_positions hn d).locatorValue_eq_zero_iff hv htail hroots (hj.trans_le hn)
  have hpos : (∃ k < (errorPositions n d).length, errorPos n d k = j) ↔ d j ≠ 0 :=
    ⟨fun ⟨_, hk, hkj⟩ => hkj ▸ (mem_errorPositions.1 (errorPos_mem hk)).2, exists_errorPos hj⟩
  rw [Bool.eq_iff_iff, beq_iff_eq, bne_iff_ne, hiff, hpos]

end

/-! ## The errors of a stream -/

/-- The coefficient of `x^j` by which the stream `vs` of `n` codewords misses `ws` (R116). -/
def errorAt (n : Nat) (ws vs : List Byte) (j : Nat) : Byte := gadd (ws.getD (n - 1 - j) 0) (vs.getD (n - 1 - j) 0)

section
variable {n : Nat} {ws vs : List Byte}

theorem syndrome_eq_gadd (hws : ws.length = n) (hvs : vs.length = n) (i : Nat) :
    syndrome vs i = gadd (syndrome ws i) (powerSum n id (errorAt n ws vs) i) := by
  simp only [syndrome, powerSum, errorAt, hws, hvs, gadd_gmul, xorSum_gadd, id]
  rw [← gadd_assoc, gadd_self, zero_gadd]

theorem getD_eq_getD_iff (hws : ws.length = n) (hvs : vs.length = n) {k : Nat} (hk : k < n) :
    ws.getD k 0 = vs.getD k 0 ↔ ws[k]? = vs[k]? := by
  simp [List.getD_eq_getElem?_getD, hws, hvs, hk]

theorem length_errorPositions (hws : ws.length = n) (hvs : vs.length = n) :
    (errorPositions n (errorAt n ws vs)).length = errorCount n ws vs := by
  have hrev : (List.range n).map (fun j => n - 1 - j) = (List.range n).reverse := by
    rw [List.range_eq_range', List.reverse_range']
    simp [List.range_eq_range']
  have hfilter : errorPositions n (errorAt n ws vs) =
      (List.range n).filter ((fun k => ws[k]? != vs[k]?) ∘ fun j => n - 1 - j) := by
    refine List.filter_congr fun j hj => ?_
    have hj : n - 1 - j < n := by have := List.mem_range.1 hj; omega
    rw [Function.comp_apply, Bool.eq_iff_iff, bne_iff_ne, bne_iff_ne, errorAt, Ne, Ne, gadd_eq_zero_iff,
      getD_eq_getD_iff hws hvs hj]
  rw [hfilter, errorCount, ← List.length_map (f := fun j => n - 1 - j), ← List.filter_map, hrev, List.filter_reverse,
    List.length_reverse]

end

/-! ## The eight steps (R110) -/

section
variable {s : State} {d : Nat → Byte}

/-- The syndromes of the state are those of the error polynomial `d`, whose positions in error are at least one and at
most `t`. -/
structure Correctable (s : State) (d : Nat → Byte) : Prop where
  phase : s.phase = .rs
  host : s.host = []
  size : s.n ≤ 255
  pos : 1 ≤ (errorPositions s.n d).length
  le : (errorPositions s.n d).length ≤ s.t
  synd : ∀ i, 1 ≤ i → i ≤ 2 * s.t → syndAt s i = powerSum s.n id d i

theorem Correctable.pattern (h : Correctable s d) :
    ErrorPattern (errorPositions s.n d).length (errorPos s.n d) fun k => d (errorPos s.n d k) :=
  errorPattern_of_positions h.size d

theorem Correctable.isSyndromes (h : Correctable s d) :
    IsSyndromes s.t (errorPositions s.n d).length (errorPos s.n d) (fun k => d (errorPos s.n d k)) (syndAt s) :=
  fun i h1 hi => (h.synd i h1 hi).trans (powerSum_errorPositions s.n d i)

/-- RS.ZERO goes on to the locator. -/
theorem Correctable.run_zero_test (h : Correctable s d) (hu : s.upc = .rsZero) (k : Nat) :
    Host.Core.run Sys2Proof.core (k + 1) s = Host.Core.run Sys2Proof.core k { s with upc := .rsLoc } := by
  obtain ⟨i, h1, hi, hne⟩ := h.pattern.exists_syndrome_ne_zero h.pos
  have hle := h.le
  have hi : i ≤ 2 * s.t := by omega
  rw [← h.isSyndromes i h1 hi] at hne
  exact run_rs_succ (i := .rsZero) k h.phase h.host (hu ▸ rfl) (execRsZero_of_nonzero h1 hi hne)

/-- RS.LOC, RS.CHIEN and RS.COUNT find exactly the positions in error. -/
theorem Correctable.run_locator (h : Correctable s d) (hu : s.upc = .rsLoc) (k : Nat) : ∃ r,
    Host.Core.run Sys2Proof.core (k + 3) s = Host.Core.run Sys2Proof.core k
      { s with sig := r, nroot := (errorPositions s.n d).length, loc := errorPositions s.n d, upc := .rsMag } := by
  obtain ⟨r, hr, htail, hroots⟩ := h.pattern.solve_locator h.le h.isSyndromes
  have hloc := locatorRoots_eq_errorPositions h.size h.le htail hroots
  refine ⟨r, Eq.trans (run_rs_succ (i := .rsLoc) (k + 2) h.phase h.host (hu ▸ rfl) (execRsLoc_of_some hr))
    (Eq.trans (run_rs_succ (i := .rsChien) (k + 1) h.phase h.host rfl rfl) ?_)⟩
  rw [← hloc]
  exact run_rs_succ (i := .rsCount) k h.phase h.host rfl (execRsCount_of_good (hloc ▸ h.pos) (hloc ▸ h.le))

/-- Where `LOC` and `Y` hold the positions in error and their errors, every cell of the stream loses its error. -/
theorem Corrected.read_of_errors {t : State} (h : Corrected (List.range s.nroot) s t)
    (hnroot : s.nroot = (errorPositions s.n d).length) (hloc : ∀ k, locAt s k = errorPos s.n d k)
    (hy : ∀ k < s.nroot, yAt s k = d (errorPos s.n d k)) {j : Nat} (hj : j < s.n) :
    t.cw.read (s.n - 1 - j) = (s.cw.read (s.n - 1 - j)).map fun b => b ^^^ d j := by
  by_cases hd : d j = 0
  · have hread : t.cw.read (s.n - 1 - j) = s.cw.read (s.n - 1 - j) := h.other _ fun k hk heq => by
      obtain ⟨hlt, hne⟩ := mem_errorPositions.1 (errorPos_mem (hnroot ▸ List.mem_range.1 hk))
      rw [hloc] at heq
      exact hne ((show errorPos s.n d k = j by omega) ▸ hd)
    simp [hread, hd]
  · obtain ⟨k, hk, rfl⟩ := exists_errorPos hj hd
    rw [← hy k (hnroot ▸ hk), ← hloc]
    exact h.repaired k (List.mem_range.2 (hnroot ▸ hk))

/-- RS.MAG, RS.CORR and RS.END take the errors out of the stream. -/
theorem Correctable.run_correction (h : Correctable s d) (hu : s.upc = .rsMag)
    (hnroot : s.nroot = (errorPositions s.n d).length) (hloc : s.loc = errorPositions s.n d)
    (hcell : ∀ a, a < s.n → s.cw.read a ≠ none) : ∃ m y, Host.Core.run Sys2Proof.core 3 s =
      .next { s with y := y, cw := m, rsstat := .repaired, upc := .seqBranch } ∧
      (∀ j, j < s.n → m.read (s.n - 1 - j) = (s.cw.read (s.n - 1 - j)).map fun b => b ^^^ d j) ∧
      ∀ a, s.n ≤ a → m.read a = s.cw.read a := by
  have hlocAt : ∀ k, locAt s k = errorPos s.n d k := fun k => by rw [locAt, hloc, errorPos]
  have hlt : ∀ k, k < s.nroot → locAt s k < s.n := fun k hk =>
    hlocAt k ▸ (mem_errorPositions.1 (errorPos_mem (hnroot ▸ hk))).1
  have hidx : ∀ k, k < s.nroot → s.n - 1 - locAt s k < s.n := fun k hk => by
    have := hlt k hk
    omega
  obtain ⟨y, hy, hval⟩ := h.pattern.solve_magnitudes (h.le.trans (by omega)) h.isSyndromes
  have hmag : solve s.nroot (magnitudeMatrix s) (magnitudeRhs s) = some y := by
    simpa only [magnitudeMatrix, magnitudeRhs, hnroot, hlocAt] using hy
  obtain ⟨t, ht, hcorr⟩ := execRsCorr_of_distinct (s := { s with y := y, upc := .rsCorr }) hlt
    (fun k l hk hl heq => errorPos_distinct (hnroot ▸ hk) (hnroot ▸ hl) (by rwa [← hlocAt, ← hlocAt]))
    fun k hk => hcell _ (hidx k hk)
  refine ⟨t.cw, y, ?_, fun j => hcorr.read_of_errors hnroot hlocAt fun k hk => hval k (hnroot ▸ hk),
    fun a ha => hcorr.other a fun k hk => ?_⟩
  · refine Eq.trans (run_rs_succ (i := .rsMag) 2 h.phase h.host (hu ▸ rfl) (execRsMag_of_some hmag))
      (Eq.trans (run_rs_succ (i := .rsCorr) 1 h.phase h.host rfl ht) ?_)
    rw [hcorr.frame]
    exact run_rs_succ (i := .rsEnd) 0 h.phase h.host rfl rfl
  · exact (Nat.ne_of_lt ((hidx k (List.mem_range.1 hk)).trans_le ha)).symm

/-- From RS.ZERO on, the cells of the stream lose their errors and no other cell changes. -/
theorem Correctable.run_seven (h : Correctable s d) (hu : s.upc = .rsZero) (hcell : ∀ a, a < s.n → s.cw.read a ≠ none) :
    ∃ m sig nroot loc y, Host.Core.run Sys2Proof.core 7 s = .next { s with
        cw := m, sig := sig, nroot := nroot, loc := loc, y := y, rsstat := .repaired, upc := .seqBranch } ∧
      (∀ j, j < s.n → m.read (s.n - 1 - j) = (s.cw.read (s.n - 1 - j)).map fun b => b ^^^ d j) ∧
      ∀ a, s.n ≤ a → m.read a = s.cw.read a := by
  obtain ⟨r, hloc⟩ := Correctable.run_locator (s := { s with upc := .rsLoc }) { h with } rfl 3
  obtain ⟨m, y, hcorr, hfix, hother⟩ := Correctable.run_correction (s := { s with
    sig := r, nroot := (errorPositions s.n d).length, loc := errorPositions s.n d, upc := .rsMag })
    { h with } rfl rfl rfl hcell
  exact ⟨m, r, _, _, y, (h.run_zero_test hu 6).trans (hloc.trans hcorr), hfix, hother⟩

/-- A stream `vs` of at most 255 codewords that misses a codeword `ws` of the code in at most `t` cells (R127). -/
structure NearCodeword (s : State) (ws vs : List Byte) : Prop where
  size : s.n ≤ 255
  length_ws : ws.length = s.n
  length_vs : vs.length = s.n
  code : IsCodeword s.ew ws
  le : errorCount s.n ws vs ≤ s.t

variable {ws vs : List Byte}

/-- The codeword contributes nothing to the syndromes that the block computes (R113). -/
theorem NearCodeword.syndrome_eq (h : NearCodeword s ws vs) {i : Nat} (h1 : 1 ≤ i) (hi : i ≤ 2 * s.t) :
    syndrome vs i = powerSum s.n id (errorAt s.n ws vs) i := by
  have hew : i ≤ s.ew := by rw [State.t] at hi; omega
  rw [syndrome_eq_gadd h.length_ws h.length_vs, h.code i h1 hew, zero_gadd]

theorem NearCodeword.syndrome_eq_zero (h : NearCodeword s ws vs) (hzero : errorCount s.n ws vs = 0) {i : Nat}
    (h1 : 1 ≤ i) (hi : i ≤ 2 * s.t) : syndrome vs i = 0 := by
  rw [h.syndrome_eq h1 hi, powerSum_errorPositions, length_errorPositions h.length_ws h.length_vs, hzero]
  rfl

theorem NearCodeword.correctable (h : NearCodeword s ws vs) (hp : s.phase = .rs) (hq : s.host = [])
    (hpos : 1 ≤ errorCount s.n ws vs) (hsynd : s.synd = syndromes vs s.t) : Correctable s (errorAt s.n ws vs) where
  phase := hp
  host := hq
  size := h.size
  pos := hpos.trans_eq (length_errorPositions h.length_ws h.length_vs).symm
  le := (length_errorPositions h.length_ws h.length_vs).trans_le h.le
  synd _ h1 hi := (syndAt_of_syndromes hsynd h1 hi).trans (h.syndrome_eq h1 hi)

/-- From its start the RS phase puts the codeword back, over the cells of the stream and no others (R112, R127). -/
theorem NearCodeword.run_eight (h : NearCodeword s ws vs) (hp : s.phase = .rs) (hu : s.upc = .rsSynd) (hq : s.host = [])
    (hholds : Holds s 0 vs) (hpos : 1 ≤ errorCount s.n ws vs) : ∃ m synd sig nroot loc y,
      Host.Core.run Sys2Proof.core 8 s = .next { s with
        cw := m, synd := synd, sig := sig, nroot := nroot, loc := loc, y := y, rsstat := .repaired, upc := .seqBranch } ∧
      (∀ a, a < s.n → m.read a = ws[a]?) ∧ ∀ a, s.n ≤ a → m.read a = s.cw.read a := by
  have hread : ∀ a, a < s.n → s.cw.read a = some (vs.getD a 0) := fun a ha => by
    rw [← Nat.zero_add a, hholds a (h.length_vs ▸ ha)]
    simp [h.length_vs, ha]
  have hcorr : Correctable { s with synd := syndromes vs s.t, upc := .rsZero } (errorAt s.n ws vs) :=
    NearCodeword.correctable { h with } hp hq hpos rfl
  obtain ⟨m, sig, nroot, loc, y, hrun, hfix, hother⟩ := hcorr.run_seven rfl fun a ha =>
    (hread a ha).trans_ne (Option.some_ne_none _)
  have hfirst := run_rs_succ (i := .rsSynd) 7 hp hq (hu ▸ rfl) (execRsSynd_of_holds h.length_vs hholds)
  refine ⟨m, _, sig, nroot, loc, y, hfirst.trans hrun, fun a ha => ?_, hother⟩
  have hcell : m.read (s.n - 1 - (s.n - 1 - a)) = (s.cw.read (s.n - 1 - (s.n - 1 - a))).map fun b =>
      b ^^^ errorAt s.n ws vs (s.n - 1 - a) := hfix (s.n - 1 - a) (show _ < s.n by omega)
  rw [errorAt, show s.n - 1 - (s.n - 1 - a) = a by omega, hread a ha] at hcell
  calc m.read a
    _ = some (gadd (vs.getD a 0) (gadd (ws.getD a 0) (vs.getD a 0))) := hcell
    _ = some (ws.getD a 0) := by rw [gadd_comm (ws.getD a 0), ← gadd_assoc, gadd_self, zero_gadd]
    _ = ws[a]? := by simp [h.length_ws, ha]

/-- A stream with one cell changed has one error. -/
theorem errorCount_set {n k : Nat} {ws : List Byte} (hws : ws.length = n) (hk : k < n) {b : Byte}
    (hb : b ≠ ws.getD k 0) : errorCount n ws (ws.set k b) = 1 := by
  have hfilter : (List.range n).filter (fun j => ws[j]? != (ws.set k b)[j]?) = (List.range n).filter (· == k) := by
    refine List.filter_congr fun j hj => ?_
    by_cases hjk : j = k
    · subst hjk
      simpa [hws, hk] using fun h => hb (by simp [← h, hws, hk])
    · simp [List.getElem?_set_ne (Ne.symm hjk), hjk]
  rw [errorCount, hfilter, ← List.count_eq_length_filter]
  exact List.count_eq_one_of_mem List.nodup_range (List.mem_range.2 hk)

end

end Sys2Proof.Machine

open Sys2Proof.Machine

/-- Settles O29: with no difference the syndromes are those of a codeword; else the locator system yields the positions
in error, and the magnitude system the errors. -/
theorem upToTErrorsAreCorrected : Obligations.UpToTErrorsAreCorrected := by
  intro s ws vs hp hu hq hn hws hvs hcode hholds hle
  have hnear : NearCodeword s ws vs := ⟨hn, hws, hvs, hcode, hle⟩
  refine ⟨fun hzero => ?_, fun hpos => ?_⟩
  · have hrun := run_two_of_zero_syndromes hp hu hq hvs hholds fun _ => hnear.syndrome_eq_zero hzero
    exact ⟨_, hrun, rfl, rfl, fun _ => rfl⟩
  · obtain ⟨m, synd, sig, nroot, loc, y, hrun, hfix, -⟩ := hnear.run_eight hp hu hq hholds hpos
    exact ⟨_, hrun, rfl, rfl, fun a ha => (Nat.zero_add a).symm ▸ hfix a (hws ▸ ha)⟩

/-- Settles O28: the case of one error, with the frame of the eight steps. -/
theorem oneWrongCodewordIsRepaired : Obligations.OneWrongCodewordIsRepaired := by
  intro s ws k e hp hu hq hn ht hws hcode hk he hholds
  have hcount : errorCount s.n ws (ws.set k (ws.getD k 0 ^^^ e)) = 1 :=
    errorCount_set hws hk fun h => he (by simpa using h)
  have hnear : NearCodeword s ws (ws.set k (ws.getD k 0 ^^^ e)) :=
    ⟨hn, hws, by simpa using hws, hcode, hcount.trans_le ht⟩
  obtain ⟨m, synd, sig, nroot, loc, y, hrun, hfix, hother⟩ := hnear.run_eight hp hu hq hholds hcount.ge
  exact ⟨_, hrun, rfl, rfl, fun a ha => (Nat.zero_add a).symm ▸ hfix a (hws ▸ ha), hother, rfl⟩

end

section
/-! PROOFS. The ASCII family: the frame of the payload phase (R130 to R134, R85), the macro prefix (R132) and the
codewords of ASCII mode (R135 to R147). -/

namespace Sys2Proof.Machine

/-! ## The loop and the end of the payload phase -/

theorem execPlLoop_of_lt {s : State} (h : s.idx < s.dw) : execPlLoop s = .next (goto .plDispatch s) := if_pos h

theorem execPlLoop_of_ge {s : State} (h : s.dw ≤ s.idx) : execPlLoop s = .next (goto .plEnd s) :=
  if_neg (Nat.not_lt.2 h)

theorem execPlEnd_of_no_macro {s : State} (h : s.macroReg = .zero) : execPlEnd s = .next (goto .seqDone s) := if_pos h

theorem execPlEnd_of_macro {s : State} (h : s.macroReg ≠ .zero) :
    execPlEnd s = .next (goto .seqDone (emitAll macroTrailer s)) := if_neg h

theorem execSeqDone_of_no_cause {s : State} (h : s.cause = .none) :
    execSeqDone s = .next { s with result := .success, phase := .done } := if_pos h

theorem execSeqDone_of_cause {s : State} (h : s.cause ≠ .none) :
    execSeqDone s = .next { s with result := .payloadFail, olen := 0, phase := .done } := if_neg h

/-! ## The bytes that ASCII codewords emit -/

/-- The shift of R141 falls on the number or on the byte alike: `byte` makes the byte after it. -/
theorem usByte_eq_ofNat (s : State) (b : Nat) : usByte s b = BitVec.ofNat 8 (if s.ush then b + 128 else b) :=
  (apply_ite byte ..).symm

/-- The macro prefix appends its header (R132). -/
theorem macroPrefix_appends (m : MacroTag) (digit : Byte) (s : State) :
    Appends s (macroPrefix m digit s) (macroHeader digit) := (emitAll_appends (macroHeader digit) s).congr_right rfl rfl

/-- The macro prefix changes `OUT`, `OLEN`, `MACRO`, `IDX` and the sequencer position only. -/
theorem macroPrefix_frame (m : MacroTag) (digit : Byte) (s : State) :
    macroPrefix m digit s =
      { s with
        out := (macroPrefix m digit s).out, olen := (macroPrefix m digit s).olen
        macroReg := m, idx := 1, upc := .plLoop } := by
  rw [macroPrefix, emitAll_frame]
  rfl

/-- Raising INVALID_PAYLOAD answers the state of R216. -/
theorem raiseInvalidPayload_eq_payloadFault (c : Cause) (s : State) : raiseInvalidPayload c s = payloadFault c s := rfl

/-- Every reserved codeword fails in the same way (R146). -/
theorem reservedCodeword_eq (s : State) : reservedCodeword s = .next (payloadFault .reservedCodeword s) :=
  congrArg Host.Outcome.next (raiseInvalidPayload_eq_payloadFault .reservedCodeword s)

end Sys2Proof.Machine

open Sys2Proof.Machine

/-- Settles O32: PL.LOOP splits at `IDX = DW`. -/
theorem payloadFrameRuns : Obligations.PayloadFrameRuns := fun _ =>
  ⟨rfl, execPlLoop_of_lt, execPlLoop_of_ge, rfl⟩

/-- Settles O33: the trailer is emitted under a macro, and the cause tells how SEQ.DONE ends. -/
theorem payloadEndEmitsTheTrailer : Obligations.PayloadEndEmitsTheTrailer := by
  refine fun s => ⟨execPlEnd_of_no_macro, fun hmacro => ?_, execSeqDone_of_no_cause, execSeqDone_of_cause⟩
  refine ⟨_, execPlEnd_of_macro hmacro, (emitAll_appends macroTrailer s).congr_right rfl rfl, ?_⟩
  rw [emitAll_frame]
  rfl

/-- Settles O34: both prefixes are `macroPrefix`, with their tag and digit. -/
theorem macroPrefixEmitsTheHeader : Obligations.MacroPrefixEmitsTheHeader := fun s =>
  ⟨⟨_, rfl, macroPrefix_appends .five 0x35 s, macroPrefix_frame .five 0x35 s⟩,
    _, rfl, macroPrefix_appends .six 0x36 s, macroPrefix_frame .six 0x36 s⟩

/-- Settles O35: `emit_us` appends the byte and clears `USH`. -/
theorem ascEmitsUnderUpperShift : Obligations.AscEmitsUnderUpperShift := by
  intro s b _
  refine ⟨_, rfl, ?_, ?_⟩
  · rw [← usByte_eq_ofNat]
    exact (emitUs_appends b s).congr_right rfl rfl
  · rw [emitUs_frame]
    rfl

/-- Settles O36: the plain emission of two digits leaves `USH`. -/
theorem digEmitsTwoDigits : Obligations.DigEmitsTwoDigits := by
  intro s dd _
  refine ⟨_, rfl, (emitAll_appends _ s).congr_right rfl rfl, ?_⟩
  rw [emitAll_frame]
  rfl

/-- Settles O37: each latch is one update of the registers it names. -/
theorem latchesSwitchTheMode : Obligations.LatchesSwitchTheMode := fun _ => ⟨rfl, rfl, rfl, rfl, rfl⟩

/-- Settles O38: none of the four touches `OUT`, and ECI ignores its operand. -/
theorem silentCodewordsMoveOn : Obligations.SilentCodewordsMoveOn := fun _ => ⟨rfl, rfl, rfl, fun _ => rfl⟩

/-- Settles O39: the four rows share one meaning, whatever their codeword. -/
theorem reservedCodewordsFail : Obligations.ReservedCodewordsFail := fun s =>
  ⟨reservedCodeword_eq s, fun _ _ => reservedCodeword_eq s, fun _ _ => reservedCodeword_eq s,
    fun _ _ => reservedCodeword_eq s⟩

end

section
/-! PROOFS. The family of C40, Text and X12 (44_c40_text_x12.md): what each value row does (R164 to R174, R176), the
pair as the run of its three rows (R163, R219 (c)), and the ends of a run (R161, R162, R175). -/

namespace Sys2Proof.Machine

/-! ## What a value row does -/

/-- A basic value appends its character under upper shift and clears `USH` (R166 to R168). -/
theorem basicChar_emits (b : Nat) (s : State) :
    ∃ t, (basicChar b s).settle = .next t ∧ Appends s t [usByte s b] ∧
      t = { s with out := t.out, olen := t.olen, ush := false } :=
  ⟨_, rfl, emitUs_appends b s, emitUs_frame b s⟩

/-- A shifted value does the same and returns to the basic set (R169, R170, R173). -/
theorem shiftedChar_emits (b : Nat) (s : State) :
    ∃ t, (shiftedChar b s).settle = .next t ∧ Appends s t [usByte s b] ∧
      t = { s with out := t.out, olen := t.olen, ush := false, sset := .set0 } := by
  refine ⟨setShift .set0 (emitUs b s), rfl, (emitUs_appends b s).congr_right rfl rfl, ?_⟩
  rw [emitUs_frame]
  rfl

/-- An X12 value appends its character by plain `emit` (R176). -/
theorem x12Char_emits (b : Nat) (s : State) :
    ∃ t, (x12Char b s).settle = .next t ∧ Appends s t [byte b] ∧ t = { s with out := t.out, olen := t.olen } :=
  ⟨_, rfl, emit_appends (byte b) s, rfl⟩

/-- Every reserved value fails in the same way (R174). -/
theorem reservedValue_settle (s : State) : (reservedValue s).settle = .next (payloadFault .reservedValue s) :=
  congrArg Host.Outcome.next (raiseInvalidPayload_eq_payloadFault .reservedValue s)

/-- Every reserved pair fails in the same way (R175). -/
theorem reservedPair_eq (s : State) : reservedPair s = .next (payloadFault .reservedTriple s) :=
  congrArg Host.Outcome.next (raiseInvalidPayload_eq_payloadFault .reservedTriple s)

/-! ## The end of a value -/

/-- The effect is a raised INVALID_PAYLOAD. -/
def Eff.isRaised : Eff → Bool
  | .done _ => false
  | .raised _ _ => true

/-- The state after an effect, a raised INVALID_PAYLOAD being taken. -/
def Eff.settled : Eff → State
  | .done s => s
  | .raised c s => raiseInvalidPayload c s

theorem Eff.settle_eq (e : Eff) : e.settle = .next e.settled := by cases e <;> rfl

/-- No value of C40 or Text touches `IDX`, raised or not. -/
theorem valueOp_settled_idx (op : ValueOp) (s : State) : (op.run s).settled.idx = s.idx := by
  cases op with
  | basic b => exact emitUs_idx b s
  | shifted b => exact emitUs_idx b s
  | shift | fnc1 | upperShift | reserved => rfl

theorem valueC40_settled_idx (v : Nat) (s : State) : (valueC40 v s).settled.idx = s.idx := by
  obtain ⟨op, h⟩ := valueC40_eq_run v s.sset
  rw [h s rfl, valueOp_settled_idx]

theorem valueText_settled_idx (v : Nat) (s : State) : (valueText v s).settled.idx = s.idx := by
  obtain ⟨op, h⟩ := valueText_eq_run v s.sset
  rw [h s rfl, valueOp_settled_idx]

theorem valueX12_settled_idx (v : Nat) (s : State) : (valueX12 v s).settled.idx = s.idx := by
  obtain ⟨b, h⟩ := valueX12_eq_x12Char v
  rw [h]
  rfl

/-- Values that leave `IDX` leave it together. -/
theorem runValues_settled_idx {value : Nat → State → Eff} (hv : ∀ v s, (value v s).settled.idx = s.idx)
    (vs : List Nat) (s : State) : (runValues value vs s).settled.idx = s.idx := by
  induction vs generalizing s with
  | nil => rfl
  | cons v vs ih =>
    have hone := hv v s
    rw [runValues_cons]
    generalize value v s = e at hone ⊢
    cases e with
    | done t => exact (ih t).trans hone
    | raised c t => exact hone

/-! ## A pair runs its rows -/

/-- In state `s` the row `i` has the effect `e`, and it is reserved where the effect is a raised INVALID_PAYLOAD. -/
structure RowRuns (i : Instr) (s : State) (e : Eff) : Prop where
  exec_eq : exec i s = e.settle
  reserved_eq : reservedRow i = e.isRaised

/-- The row decoded from a C40 value is the one the pair executes (R164). -/
theorem decodeC40Value_runs (v : Nat) (s : State) : RowRuns (decodeC40Value s.sset v) s (valueC40 v s) := by
  cases h : s.sset
  all_goals
    simp only [decodeC40Value, valueC40, h]
    split_ifs <;> exact ⟨rfl, rfl⟩

/-- The row decoded from a Text value is the one the pair executes (R164). -/
theorem decodeTextValue_runs (v : Nat) (s : State) : RowRuns (decodeTextValue s.sset v) s (valueText v s) := by
  cases h : s.sset
  all_goals
    simp only [decodeTextValue, valueText, h]
    split_ifs <;> exact ⟨rfl, rfl⟩

/-- The row decoded from an X12 value is the one the pair executes (R176). -/
theorem decodeX12Value_runs (v : Nat) (s : State) : RowRuns (decodeX12Value v) s (valueX12 v s) := by
  unfold decodeX12Value valueX12
  split_ifs <;> exact ⟨rfl, rfl⟩

/-- The rows of mode `m` are the values that `value` executes: what R164 selects from the current `SSET`. -/
def RowsOf (m : Mode) (value : Nat → State → Eff) : Prop :=
  ∀ v s, v ≤ 39 → ∃ i, decodeValue m s.sset v = .ok i ∧ RowRuns i s (value v s)

theorem rowsOf_c40 : RowsOf .c40 valueC40 := fun v s hv =>
  ⟨_, (decodeValue_of_le hv s.sset).1, decodeC40Value_runs v s⟩

theorem rowsOf_text : RowsOf .text valueText := fun v s hv =>
  ⟨_, (decodeValue_of_le hv s.sset).2.1, decodeTextValue_runs v s⟩

theorem rowsOf_x12 : RowsOf .x12 valueX12 := fun v s hv =>
  ⟨_, (decodeValue_of_le hv s.sset).2.2, decodeX12Value_runs v s⟩

/-- Running values as their rows ends as running them together does, at the first reserved row too (R219 (c)). -/
theorem RowsOf.runRows_eq {m : Mode} {value : Nat → State → Eff} (h : RowsOf m value) (vs : List Nat)
    (hvs : ∀ v ∈ vs, v ≤ 39) (s : State) :
    runRows m vs s = some ((runValues value vs s).settled, (runValues value vs s).isRaised) := by
  induction vs generalizing s with
  | nil => rfl
  | cons v vs ih =>
    obtain ⟨hle, hrest⟩ := List.forall_mem_cons.1 hvs
    obtain ⟨i, hdecode, hexec, hreserved⟩ := h v s hle
    simp only [runRows, hdecode, hexec, hreserved, Eff.settle_eq, runValues_cons]
    cases value v s with
    | done t => exact ih hrest t
    | raised c t => rfl

/-- A pair answers the state its values reach, and moves `IDX` on by two where none is reserved (R163). -/
theorem triple_eq {value : Nat → State → Eff} (hv : ∀ v s, (value v s).settled.idx = s.idx) (a b c : Nat) (s : State) :
    triple value a b c s = .next (
      if (runValues value [a, b, c] s).isRaised then (runValues value [a, b, c] s).settled
      else { (runValues value [a, b, c] s).settled with idx := s.idx + 2, upc := .plLoop }) := by
  have hidx := runValues_settled_idx hv [a, b, c] s
  rcases triple_cases value a b c s with ⟨t, ht, htriple⟩ | ⟨cause, t, ht, htriple⟩
  · rw [htriple, ht, ← hidx, ht]
    rfl
  · rw [htriple, ht]
    rfl

/-- A pair runs its three values as the rows of its mode. -/
theorem RowsOf.triple_runs {m : Mode} {value : Nat → State → Eff} (h : RowsOf m value)
    (hv : ∀ v s, (value v s).settled.idx = s.idx) {a b c : Nat} (ha : a ≤ 39) (hb : b ≤ 39) (hc : c ≤ 39) (s : State) :
    ∃ t raised, runRows m [a, b, c] s = some (t, raised) ∧
      triple value a b c s = .next (if raised then t else { t with idx := s.idx + 2, upc := .plLoop }) :=
  ⟨_, _, h.runRows_eq [a, b, c] (by simp [ha, hb, hc]) s, triple_eq hv a b c s⟩

/-! ## A pair of characters -/

theorem triple_of_done {value : Nat → State → Eff} {a b c : Nat} {s t : State}
    (h : runValues value [a, b, c] s = .done t) : triple value a b c s = .next (endGroup (advance 2 t)) := by
  rw [triple, h]

/-- A basic C40 value emits the character of R166 to R168. -/
theorem valueC40_of_basic {v : Nat} {s : State} (hs : s.sset = .set0) (hv : 3 ≤ v) :
    valueC40 v s = basicChar (basicCode 0x41 v) s := by
  obtain ⟨h0, h1, h2⟩ : v ≠ 0 ∧ v ≠ 1 ∧ v ≠ 2 := by omega
  simp only [valueC40, hs, h0, h1, h2, basicCode, if_false]
  split_ifs <;> rfl

/-- A basic Text value emits the character of R166 to R168. -/
theorem valueText_of_basic {v : Nat} {s : State} (hs : s.sset = .set0) (hv : 3 ≤ v) :
    valueText v s = basicChar (basicCode 0x61 v) s := by
  obtain ⟨h0, h1, h2⟩ : v ≠ 0 ∧ v ≠ 1 ∧ v ≠ 2 := by omega
  simp only [valueText, hs, h0, h1, h2, basicCode, if_false]
  split_ifs <;> rfl

/-- Every X12 value emits the character of R176, whatever the flags are (R177). -/
theorem valueX12_eq (v : Nat) (s : State) : valueX12 v s = x12Char (x12Code v) s := by
  unfold valueX12 x12Code
  split_ifs <;> rfl

/-- Three basic values: upper shift falls on the first character only, as `emit_us` clears `USH` (R141). -/
theorem triple_of_basic {value : Nat → State → Eff} {code : Nat → Nat}
    (hvalue : ∀ {v s}, s.sset = .set0 → 3 ≤ v → value v s = basicChar (code v) s) {a b c : Nat} {s : State}
    (hs : s.sset = .set0) (ha : 3 ≤ a) (hb : 3 ≤ b) (hc : 3 ≤ c) :
    ∃ t, triple value a b c s = .next t ∧ Appends s t [usByte s (code a), byte (code b), byte (code c)] ∧
      t = { s with out := t.out, olen := t.olen, ush := false, idx := s.idx + 2, upc := .plLoop } := by
  have hrun : runValues value [a, b, c] s = .done (emitUs (code c) (emitUs (code b) (emitUs (code a) s))) := by
    simp [runValues, basicChar, hvalue, hs, ha, hb, hc]
  have hshift : ∀ k d t, usByte (emitUs k t) d = byte d := fun k d t => by simp [usByte]
  refine ⟨_, triple_of_done hrun, ?_, ?_⟩
  · have h₁ := emitUs_appends (code a) s
    have h₂ := emitUs_appends (code b) (emitUs (code a) s)
    have h₃ := emitUs_appends (code c) (emitUs (code b) (emitUs (code a) s))
    rw [hshift] at h₂ h₃
    exact ((h₁.append h₂).append h₃).congr_right rfl rfl
  · rw [emitUs_frame, emitUs_frame, emitUs_frame]
    rfl

/-- X12 values emit their characters in order. -/
theorem runValues_x12 (vs : List Nat) (s : State) :
    runValues valueX12 vs s = .done (emitAll (vs.map fun v => byte (x12Code v)) s) := by
  induction vs generalizing s with
  | nil => rfl
  | cons v vs ih =>
    rw [runValues_cons, valueX12_eq]
    exact ih (emit (byte (x12Code v)) s)

end Sys2Proof.Machine

open Sys2Proof.Machine

/-- Settles O42: the rows each mode decodes are the values its pair executes, and none of them touches `IDX`. -/
theorem tripleRunsItsRows : Obligations.TripleRunsItsRows := fun s _ _ _ ha hb hc =>
  ⟨rowsOf_c40.triple_runs valueC40_settled_idx ha hb hc s, rowsOf_text.triple_runs valueText_settled_idx ha hb hc s,
    rowsOf_x12.triple_runs valueX12_settled_idx ha hb hc s⟩

/-- Settles O43: the basic values leave `SSET` 0, so that all three are basic characters. -/
theorem basicTriplesEmitThreeCharacters : Obligations.BasicTriplesEmitThreeCharacters :=
  fun _ _ _ _ hs ha _ hb _ hc _ =>
    ⟨triple_of_basic valueC40_of_basic hs ha hb hc, triple_of_basic valueText_of_basic hs ha hb hc⟩

/-- Settles O44: the three values are one plain emission of their characters. -/
theorem x12TriplesEmitThreeCharacters : Obligations.X12TriplesEmitThreeCharacters := by
  intro s a b c _ _ _
  refine ⟨_, triple_of_done (runValues_x12 [a, b, c] s), (emitAll_appends _ s).congr_right rfl rfl, ?_⟩
  rw [emitAll_frame]
  rfl

/-- Settles O40: the three modes share the two ends of a run. -/
theorem pairRunsEnd : Obligations.PairRunsEnd := by
  intro s i
  simp only [List.mem_cons, List.not_mem_nil, or_false]
  constructor
  · rintro (rfl | rfl | rfl) <;> rfl
  · rintro (rfl | rfl | rfl) <;> rfl

/-- Settles O41: every reserved pair has one meaning, whatever its mode and number. -/
theorem reservedPairsFail : Obligations.ReservedPairsFail := by
  refine fun s => ⟨?_, fun _ _ _ => ⟨reservedPair_eq s, reservedPair_eq s, reservedPair_eq s⟩⟩
  simp only [List.forall_mem_cons, List.not_mem_nil, false_imp_iff, implies_true, and_true]
  exact ⟨reservedPair_eq s, reservedPair_eq s, reservedPair_eq s⟩

/-- Settles O45: each row is one update of `SSET`, in C40 and in Text. -/
theorem shiftValuesSelectTheSet : Obligations.ShiftValuesSelectTheSet := fun _ =>
  ⟨List.forall_mem_cons.2 ⟨rfl, List.forall_mem_singleton.2 rfl⟩,
    List.forall_mem_cons.2 ⟨rfl, List.forall_mem_singleton.2 rfl⟩,
    List.forall_mem_cons.2 ⟨rfl, List.forall_mem_singleton.2 rfl⟩⟩

/-- Settles O46: each row is `basicChar` of its character. -/
theorem basicValuesEmitTheirCharacter : Obligations.BasicValuesEmitTheirCharacter := by
  intro s i ch h
  have hrow : exec i s = (basicChar ch s).settle := by
    rcases h with ⟨rfl | rfl, rfl⟩ | ⟨v, -, -, rfl | rfl, rfl⟩ | ⟨v, -, -, rfl, rfl⟩ | ⟨v, -, -, rfl, rfl⟩ <;> rfl
  rw [hrow]
  exact basicChar_emits ch s

/-- Settles O47: each row is `shiftedChar` of its character. -/
theorem shiftedValuesEmitTheirCharacter : Obligations.ShiftedValuesEmitTheirCharacter := by
  intro s i ch h
  have hrow : exec i s = (shiftedChar ch s).settle := by
    rcases h with ⟨v, -, rfl | rfl, rfl⟩ | ⟨v, -, rfl | rfl, rfl⟩ | ⟨v, -, -, rfl | rfl, rfl⟩ |
      ⟨v, -, -, rfl | rfl, rfl⟩ | ⟨v, -, rfl, rfl⟩ | ⟨rfl, rfl⟩ | ⟨v, -, -, rfl, rfl⟩ | ⟨v, -, -, rfl, rfl⟩ <;> rfl
  rw [hrow]
  exact shiftedChar_emits ch s

/-- Settles O48: each row is an update of `SSET` and `USH`, in C40 and in Text. -/
theorem shiftTwoFunctionsEmitNothing : Obligations.ShiftTwoFunctionsEmitNothing := fun _ =>
  ⟨List.forall_mem_cons.2 ⟨rfl, List.forall_mem_singleton.2 rfl⟩,
    List.forall_mem_cons.2 ⟨rfl, List.forall_mem_singleton.2 rfl⟩⟩

/-- Settles O49: every reserved value has one meaning, whatever its set and number. -/
theorem reservedValuesFail : Obligations.ReservedValuesFail := by
  intro s v
  have hfail := reservedValue_settle s
  simp only [List.forall_mem_cons, List.not_mem_nil, false_imp_iff, implies_true, and_true]
  exact ⟨fun _ _ => ⟨hfail, hfail, hfail, hfail⟩, fun _ _ => ⟨hfail, hfail⟩, fun _ _ => ⟨hfail, hfail⟩⟩

/-- Settles O50: each row is `x12Char` of its character. -/
theorem x12ValuesEmitTheirCharacter : Obligations.X12ValuesEmitTheirCharacter := by
  intro s i ch h
  have hrow : exec i s = (x12Char ch s).settle := by
    rcases h with ⟨rfl, rfl⟩ | ⟨rfl, rfl⟩ | ⟨rfl, rfl⟩ | ⟨rfl, rfl⟩ | ⟨v, -, -, rfl, rfl⟩ | ⟨v, -, -, rfl, rfl⟩ <;> rfl
  rw [hrow]
  exact x12Char_emits ch s

end

section
/-! PROOFS. The EDIFACT family (45_edifact.md): a triple emits its values up to an unlatch, which ends it (R191 to
R195), and the value rows alone. -/

namespace Sys2Proof.Machine

/-! ## The values of a triple -/

/-- The character of an EDIFACT value other than the unlatch (R195). -/
def edfChar (v : Nat) : Byte := byte (if v ≤ 30 then edfLow v else v)

theorem edfLowChar_eq_emit {v : Nat} (h : v ≤ 30) (s : State) : edfLowChar v s = emit (edfChar v) s := by
  rw [edfLowChar, edfChar, if_pos h]

theorem edfHighChar_eq_emit {v : Nat} (h : ¬ v ≤ 30) (s : State) : edfHighChar v s = emit (edfChar v) s := by
  rw [edfHighChar, edfChar, if_neg h]

/-- A value other than the unlatch emits its character, and the triple goes on (R193). -/
theorem runEdf_cons_of_ne {v : Nat} (h : v ≠ 31) (j : Nat) (vs : List Nat) (s : State) :
    runEdf j (v :: vs) s = runEdf (j + 1) vs (emit (edfChar v) s) := by
  rw [runEdf, if_neg h]
  split_ifs with hv
  · rw [edfLowChar_eq_emit hv]
  · rw [edfHighChar_eq_emit hv]

/-- The unlatch ends the triple: the values after it have no effect (R194). -/
theorem runEdf_cons_unlatch (j : Nat) (vs : List Nat) (s : State) : runEdf j (31 :: vs) s = edfUnlatch j s := rfl

/-- The values before the first unlatch emit their characters in order. -/
theorem runEdf_append {vs : List Nat} (h : 31 ∉ vs) (j : Nat) (ws : List Nat) (s : State) :
    runEdf j (vs ++ ws) s = runEdf (j + vs.length) ws (emitAll (vs.map edfChar) s) := by
  induction vs generalizing j s with
  | nil => rfl
  | cons v vs ih =>
    obtain ⟨hv, hvs⟩ := not_or.1 (mt List.mem_cons.2 h)
    calc runEdf j (v :: (vs ++ ws)) s
      _ = runEdf (j + 1) (vs ++ ws) (emit (edfChar v) s) := runEdf_cons_of_ne (Ne.symm hv) j _ s
      _ = runEdf (j + 1 + vs.length) ws (emitAll (vs.map edfChar) (emit (edfChar v) s)) := ih hvs _ _
      _ = runEdf (j + (v :: vs).length) ws (emitAll ((v :: vs).map edfChar) s) := by
        rw [Nat.add_right_comm]
        rfl

/-- A triple without an unlatch emits all its values and moves past its three codewords (R193). -/
theorem runEdf_of_not_mem {vs : List Nat} (h : 31 ∉ vs) (j : Nat) (s : State) :
    runEdf j vs s = advance 3 (emitAll (vs.map edfChar) s) := by
  simpa [runEdf] using runEdf_append h j [] s

/-- A list splits at the place of its first occurrence of a value. -/
theorem split_at_first {α : Type} {vs : List α} {j : Nat} {x : α} (hj : vs[j]? = some x)
    (hfirst : ∀ k, k < j → vs[k]? ≠ some x) :
    vs = vs.take j ++ x :: vs.drop (j + 1) ∧ x ∉ vs.take j ∧ (vs.take j).length = j := by
  obtain ⟨hlt, hget⟩ := List.getElem?_eq_some_iff.1 hj
  refine ⟨?_, fun hmem => ?_, List.length_take_of_le hlt.le⟩
  · rw [← hget, ← List.drop_eq_getElem_cons hlt, List.take_append_drop]
  · obtain ⟨k, hk, hkx⟩ := List.mem_take_iff_getElem.1 hmem
    obtain ⟨hkj, -⟩ := Nat.lt_min.1 hk
    exact hfirst k hkj (List.getElem?_eq_some_iff.2 ⟨_, hkx⟩)

/-- A triple whose first unlatch has place `j` emits the values before it, and the unlatch ends it (R194). -/
theorem runEdf_of_first_unlatch {vs : List Nat} {j : Nat} (hj : vs[j]? = some 31)
    (hfirst : ∀ k, k < j → vs[k]? ≠ some 31) (s : State) :
    runEdf 0 vs s = edfUnlatch j (emitAll ((vs.take j).map edfChar) s) := by
  obtain ⟨hsplit, hmem, hlen⟩ := split_at_first hj hfirst
  calc runEdf 0 vs s
    _ = runEdf 0 (vs.take j ++ 31 :: vs.drop (j + 1)) s := by rw [← hsplit]
    _ = runEdf j (31 :: vs.drop (j + 1)) (emitAll ((vs.take j).map edfChar) s) := by
      rw [runEdf_append hmem, hlen, Nat.zero_add]
    _ = edfUnlatch j (emitAll ((vs.take j).map edfChar) s) := runEdf_cons_unlatch ..

/-- The unlatch in place `j` moves past the codewords that its six bits reach into (R194). -/
theorem edfResume_eq {j r : Nat} (h : (j, r) ∈ [(0, 1), (1, 2), (2, 3), (3, 3)]) : edfResume j = r :=
  (by decide : ∀ p ∈ [(0, 1), (1, 2), (2, 3), (3, 3)], edfResume p.1 = p.2) _ h

theorem edfUnlatch_eq {j r : Nat} (h : (j, r) ∈ [(0, 1), (1, 2), (2, 3), (3, 3)]) (s : State) :
    edfUnlatch j s = { s with mode := .ascii, ush := false, idx := s.idx + r } := by
  rw [edfUnlatch, edfResume_eq h]
  rfl

end Sys2Proof.Machine

open Sys2Proof.Machine

/-- Settles O51: the run of the triple is one plain emission of its four characters. -/
theorem edifactTripleEmitsFourCharacters : Obligations.EdifactTripleEmitsFourCharacters := by
  intro s v0 v1 v2 v3 hvs
  have hmem : 31 ∉ [v0, v1, v2, v3] := fun h => (hvs 31 h).2 rfl
  refine ⟨endGroup (runEdf 0 [v0, v1, v2, v3] s), rfl, ?_, ?_⟩
  · rw [runEdf_of_not_mem hmem]
    exact (emitAll_appends _ s).congr_right rfl rfl
  · rw [runEdf_of_not_mem hmem, emitAll_frame]
    rfl

/-- Settles O52: the values before the first unlatch are one plain emission, and the unlatch ends the run. -/
theorem edifactUnlatchEndsTheTriple : Obligations.EdifactUnlatchEndsTheTriple := by
  refine fun s => ⟨fun v0 v1 v2 v3 j r _ hr hj hfirst => ?_, rfl⟩
  refine ⟨endGroup (runEdf 0 [v0, v1, v2, v3] s), rfl, ?_, ?_⟩
  · rw [runEdf_of_first_unlatch hj hfirst]
    exact (emitAll_appends _ s).congr_right rfl rfl
  · rw [runEdf_of_first_unlatch hj hfirst, edfUnlatch_eq hr, emitAll_frame]
    rfl

/-- Settles O53: the character rows are `emit` of their character, and E.UNL is the unlatch of the triple. -/
theorem edifactValueRowsRun : Obligations.EdifactValueRowsRun := fun s _ =>
  ⟨fun _ => ⟨_, rfl, emit_appends _ s, rfl⟩, fun _ _ => ⟨_, rfl, emit_appends _ s, rfl⟩,
    fun _ _ hr => congrArg Host.Outcome.next (edfUnlatch_eq hr s)⟩

end

section
/-! PROOFS. The Base256 family (46_base256.md): the offset of a codeword (R200), a field whose codewords are there
(R202, R203, R205), and a field that overruns (R203, R204). -/

namespace Sys2Proof.Machine

/-! ## The offset of a codeword (R200) -/

/-- The offset is at most 255, so `byte` keeps it as it is. -/
theorem toNat_randOffset (i : Nat) : (randOffset i).toNat = 149 * (i + 1) % 255 + 1 :=
  toNat_byte (by omega)

/-- 255 divides `149 * 255`, by which `149 (i + 1)` grows over 255 places. -/
theorem randOffset_add_255 (i : Nat) : randOffset (i + 255) = randOffset i :=
  congrArg (fun r => byte (r + 1)) (by omega : 149 * (i + 255 + 1) % 255 = 149 * (i + 1) % 255)

/-- The difference of two Bytes is the remainder modulo 256 of their difference as integers. -/
theorem toNat_sub_byte_eq_emod (v w : Byte) : ((v - w).toNat : Int) = ((v.toNat : Int) - (w.toNat : Int)) % 256 := by
  have hv := v.isLt
  have hw := w.isLt
  rw [BitVec.toNat_sub]
  omega

/-! ## A field -/

/-- The plain bytes of a field, each by the index of its codeword (R205). -/
theorem unrandAll_eq_mapIdx (start : Nat) (ws : List Byte) :
    unrandAll start ws = ws.mapIdx fun k w => unrand w (start + k) :=
  List.ext_getElem? fun k => by rw [unrandAll_getElem?, List.getElem?_mapIdx]

/-- A field past `DW` raises INVALID_PAYLOAD(B256_OVERRUN) (R204). -/
theorem base256Field_of_overrun {start len : Nat} {s : State} (h : s.dw < start + len) :
    base256Field start len s = .next (payloadFault .b256Overrun s) :=
  (if_pos h).trans (congrArg Host.Outcome.next (raiseInvalidPayload_eq_payloadFault .b256Overrun s))

/-- A field within `DW` whose codewords `CW` holds emits them and ends the run (R205). -/
theorem base256Field_of_holds {start : Nat} {ws : List Byte} {s : State} (hle : start + ws.length ≤ s.dw)
    (hws : Holds s start ws) :
    base256Field start ws.length s =
      .next (endGroup (endRun { emitAll (unrandAll start ws) s with idx := start + ws.length })) := by
  have hread : readRun start ws.length s = .ok ws :=
    readRun_ok.2 ⟨rfl, fun _ => hle.trans (Nat.le_add_right s.dw s.ew), hws⟩
  rw [base256Field, if_neg (Nat.not_lt.2 hle), hread]

/-- What a field whose codewords are there does: it appends their plain bytes, `IDX` moves past it, and the mode is
ASCII again (R205). -/
theorem base256Field_emits {start : Nat} {ws : List Byte} {s : State} (hle : start + ws.length ≤ s.dw)
    (hws : Holds s start ws) :
    ∃ t, base256Field start ws.length s = .next t ∧ Appends s t (ws.mapIdx fun k w => unrand w (start + k)) ∧
      t = { s with
        out := t.out, olen := t.olen, idx := start + ws.length, mode := .ascii, ush := false, upc := .plLoop } := by
  refine ⟨_, base256Field_of_holds hle hws, ?_, ?_⟩
  · rw [← unrandAll_eq_mapIdx]
    exact (emitAll_appends (unrandAll start ws) s).congr_right rfl rfl
  · rw [emitAll_frame]
    rfl

end Sys2Proof.Machine

open Sys2Proof.Machine

/-- Settles O54: each form is the field of its start and length. -/
theorem base256FieldEmitsItsData : Obligations.Base256FieldEmitsItsData := by
  intro s i start ws hform hle hws
  have hrow : exec i s = base256Field start ws.length s := by
    rcases hform with ⟨rfl, -, rfl, hlen⟩ | ⟨d0, -, -, rfl, rfl, hlen⟩ | ⟨d0, d1, -, rfl, rfl, hlen⟩ <;>
      rw [hlen] <;> rfl
  rw [hrow]
  exact base256Field_emits hle hws

/-- Settles O11: `unrand` is the subtraction of the offset as a Byte. -/
theorem unrandSubtractsTheOffset : Obligations.UnrandSubtractsTheOffset := by
  refine ⟨fun v i => ?_, fun i => ⟨toNat_randOffset i, ?_, ?_, randOffset_add_255 i⟩⟩
  · rw [← toNat_randOffset]
    exact toNat_sub_byte_eq_emod v (randOffset i)
  · rw [toNat_randOffset]
    omega
  · rw [toNat_randOffset]
    omega

/-- Settles O55: both lengths reach the overrun test of the field, and a missing second length byte raises at once. -/
theorem base256OverrunFails : Obligations.Base256OverrunFails := fun s _ =>
  ⟨fun _ _ hover => base256Field_of_overrun hover,
    fun _ => congrArg Host.Outcome.next (raiseInvalidPayload_eq_payloadFault .b256Overrun s),
    fun _ _ hover => base256Field_of_overrun hover⟩

end

section
/-! PROOFS. The exceptions family (60_exceptions.md): up to RS.CORR the block has changed nothing that the host reads,
every raise of UNRECOVERABLE comes before it, and the payload phase, which no raise of it enters, keeps `RSSTAT`
(R215, R238). -/

namespace Sys2Proof.Machine

/-! ## Only RS.CORR writes `CW` (R125) -/

theorem execRsSynd_keeps_cw {s t : State} (h : execRsSynd s = .next t) : t.cw = s.cw := by
  unfold execRsSynd at h
  split at h <;> cases h
  rfl

theorem execRsZero_keeps_cw {s t : State} (h : execRsZero s = .next t) : t.cw = s.cw := by
  unfold execRsZero at h
  split at h <;> cases h <;> rfl

theorem execRsLoc_keeps_cw {s t : State} (h : execRsLoc s = .next t) : t.cw = s.cw := by
  unfold execRsLoc at h
  split at h <;> cases h <;> rfl

theorem execRsChien_keeps_cw {s t : State} (h : execRsChien s = .next t) : t.cw = s.cw := by
  cases h
  rfl

theorem execRsCount_keeps_cw {s t : State} (h : execRsCount s = .next t) : t.cw = s.cw := by
  unfold execRsCount at h
  split at h <;> cases h <;> rfl

theorem execRsMag_keeps_cw {s t : State} (h : execRsMag s = .next t) : t.cw = s.cw := by
  unfold execRsMag at h
  split at h <;> cases h <;> rfl

/-! ## The payload phase keeps `RSSTAT` -/

/-- The positions of the payload phase. -/
def payloadMicros : List Micro := [.plInit, .plLoop, .plDispatch, .group, .plEnd, .seqDone]

/-- What a step of the payload phase can do: it goes on in the phase, ends it, or stops. -/
inductive PayloadMoves (s : State) : Outcome → Prop
  | goes {k : Nat} {t : State} (run : PayloadRun k s t) (hu : t.upc ∈ payloadMicros) : PayloadMoves s (.next t)
  | ends {t : State} (host : t.host = s.host) (stat : t.rsstat = s.rsstat) (hp : t.phase = .done) :
      PayloadMoves s (.next t)
  | stopped (f : Fault) : PayloadMoves s (.fault f)

theorem PayloadRun.goto_moves {k : Nat} {s t : State} (run : PayloadRun k s t) {u : Micro} (hu : u ∈ payloadMicros) :
    PayloadMoves s (.next (goto u t)) := .goes (run.update rfl) hu

theorem PayloadRun.again {k : Nat} {s t : State} (run : PayloadRun k s t) : PayloadMoves s (.next (endGroup t)) :=
  run.goto_moves (by decide)

/-- A group that ends past `n` codewords. -/
theorem PayloadRun.past {k : Nat} {s t : State} (run : PayloadRun k s t) (n : Nat) :
    PayloadMoves s (.next (endGroup (advance n t))) := (run.update rfl).again

theorem PayloadRun.raised {k : Nat} {s t : State} (run : PayloadRun k s t) (c : Cause) :
    PayloadMoves s (.next (raiseInvalidPayload c t)) :=
  .ends ((congrArg State.host run.frame).trans rfl) run.rsstat_eq rfl

theorem decodeAscii_moves (idx : Nat) (w : Byte) (next : Option Byte) (s : State) :
    PayloadMoves s (exec (decodeAscii idx w next) s) := by
  have hsame := PayloadRun.refl s
  have hheader (m : MacroTag) (digit : Byte) : PayloadMoves s (.next (macroPrefix m digit s)) :=
    ((PayloadRun.emitAll (macroHeader digit) s).update rfl).again
  fun_cases decodeAscii
  case case1 | case8 | case11 | case13 | case18 => exact hsame.raised _
  case case2 => exact (PayloadRun.emitUs _ s).past 1
  case case4 => exact (PayloadRun.emitAll _ s).past 1
  case case10 | case12 => exact hheader _ _
  all_goals exact (hsame.update rfl).again

theorem pairForm_moves {s : State} {value : Nat → State → Eff}
    (hv : ∀ v t, t.mode = s.mode → ValueEnds 1 t (value v t)) (f : PairForm) :
    PayloadMoves s (runPairForm value f s) := by
  have hsame := PayloadRun.refl s
  cases f with
  | short | unl => exact (hsame.update rfl).again
  | pair0 | pairHi => exact hsame.raised _
  | tri a b c =>
    obtain ⟨k, -, hends⟩ := runValues_ends hv [a, b, c] rfl
    rcases triple_cases value a b c s with ⟨t, ht, hr⟩ | ⟨cause, t, ht, hr⟩ <;> rw [runPairForm, hr] <;>
      rw [ht] at hends
    · have hvals : ValueRun k s t := hends
      exact hvals.toPayloadRun.past 2
    · exact hends.2.toPayloadRun.raised cause

theorem runEdf_run (vs : List Nat) (j : Nat) (s : State) : ∃ k, PayloadRun k s (runEdf j vs s) := by
  induction vs generalizing j s with
  | nil => exact ⟨0, (PayloadRun.refl s).update rfl⟩
  | cons v vs ih =>
    unfold runEdf
    split_ifs
    · exact (ih (j + 1) (edfLowChar v s)).imp' (1 + ·) fun _ => (PayloadRun.emit _ s).trans
    · exact ⟨0, (PayloadRun.refl s).update rfl⟩
    · exact (ih (j + 1) (edfHighChar v s)).imp' (1 + ·) fun _ => (PayloadRun.emit _ s).trans

theorem decodeEdifact_moves (w : Byte) (rest : List Byte) (s : State) :
    PayloadMoves s (exec (decodeEdifact w rest) s) := by
  fun_cases decodeEdifact
  · obtain ⟨k, run⟩ := runEdf_run _ 0 s
    exact run.again
  · exact ((PayloadRun.refl s).update rfl).again

theorem base256Field_moves (start len : Nat) (s : State) : PayloadMoves s (base256Field start len s) := by
  rcases base256Field_cases start len s with ⟨-, hr⟩ | ⟨-, ws, -, hr⟩ | ⟨-, f, -, hr⟩ <;> rw [hr]
  · exact (PayloadRun.refl s).raised _
  · exact ((PayloadRun.emitAll _ s).update rfl).again
  · exact .stopped f

theorem decodeBase256_moves (idx : Nat) (w : Byte) (next : Option Byte) (s : State) :
    PayloadMoves s (exec (decodeBase256 idx w next) s) := by
  unfold decodeBase256
  split_ifs
  · exact base256Field_moves _ _ s
  · exact base256Field_moves _ _ s
  · cases next with
    | none => exact (PayloadRun.refl s).raised _
    | some d => exact base256Field_moves _ _ s

theorem groupRow_moves (w : Byte) (rest : List Byte) (s : State) :
    PayloadMoves s (exec (groupRow s.mode s.idx w rest) s) := by
  cases hm : s.mode with
  | ascii => exact decodeAscii_moves _ w rest.head? s
  | c40 => exact exec_c40 _ s ▸ pairForm_moves (fun v t ht => valueC40_ends v (ht.trans hm)) _
  | text => exact exec_text _ s ▸ pairForm_moves (fun v t ht => valueText_ends v (ht.trans hm)) _
  | x12 => exact exec_x12 _ s ▸ pairForm_moves (fun v t _ => valueX12_ends v t) _
  | edifact => exact decodeEdifact_moves w rest s
  | base256 => exact decodeBase256_moves _ w rest.head? s

theorem execPlLoop_moves (s : State) : PayloadMoves s (execPlLoop s) := by
  unfold execPlLoop
  split_ifs <;> exact (PayloadRun.refl s).goto_moves (by decide)

theorem execPlEnd_moves (s : State) : PayloadMoves s (execPlEnd s) := by
  unfold execPlEnd
  split_ifs
  · exact (PayloadRun.refl s).goto_moves (by decide)
  · exact (PayloadRun.emitAll macroTrailer s).goto_moves (by decide)

theorem execSeqDone_moves (s : State) : PayloadMoves s (execSeqDone s) := by
  unfold execSeqDone
  split_ifs <;> exact .ends rfl rfl rfl

theorem exec_payload_moves {s : State} {i : Instr} (hu : s.upc ∈ payloadMicros) (hf : fetch s = .ok i) :
    PayloadMoves s (exec i s) := by
  have hsame := PayloadRun.refl s
  cases hpos : s.upc
  all_goals simp only [fetch, hpos, Except.ok.injEq] at hf
  case group =>
    obtain ⟨w, rest, -, rfl⟩ := fetchGroup_ok hf
    exact groupRow_moves w rest s
  all_goals subst hf
  case plInit => exact (hsame.update rfl).goto_moves (by decide)
  case plLoop => exact execPlLoop_moves s
  case plDispatch => exact hsame.goto_moves (by decide)
  case plEnd => exact execPlEnd_moves s
  case seqDone => exact execSeqDone_moves s
  all_goals exact absurd (hpos ▸ hu) (by decide)

/-! ## The stages of a transaction -/

/-- `CW`, `OLEN`, `CAUSE` and `FIDX` of `u` are as in `s`. -/
structure AsLoaded (s u : State) : Prop where
  cw_eq : u.cw = s.cw
  olen_eq : u.olen = s.olen
  cause_eq : u.cause = s.cause
  fidx_eq : u.fidx = s.fidx

/-- The positions of the RS phase before the correction is made. -/
def searchMicros : List Micro := [.rsSynd, .rsZero, .rsLoc, .rsChien, .rsCount, .rsMag, .rsCorr]

/-- How far the transaction that was at RS.SYND in `s` has come in `u`. -/
inductive Stage (s u : State) : Prop
  | searching (hp : u.phase = .rs) (hu : u.upc ∈ searchMicros) (same : AsLoaded s u)
  | corrected (hp : u.phase = .rs) (hu : u.upc = .rsEnd)
  | judged (hp : u.phase = .rs) (hu : u.upc = .seqBranch) (same : u.rsstat = .unrecoverable → AsLoaded s u)
  | passed (hp : u.phase = .payload) (hu : u.upc ∈ payloadMicros) (hstat : u.rsstat ≠ .unrecoverable)
  | finished (hp : u.phase = .done) (same : u.rsstat = .unrecoverable → AsLoaded s u ∧ u.result = .rsFail)

/-- A micro-operation that does not write `CW` and goes on searching, or leaves for SEQ.BRANCH. -/
theorem RsGoes.stage {us : List Micro} {s u v : State} (h : RsGoes us u v) (hcw : v.cw = u.cw) (hp : u.phase = .rs)
    (same : AsLoaded s u) (hus : ∀ p ∈ us, p ∈ searchMicros ∨ p = .seqBranch) : Stage s v := by
  have hphase : v.phase = .rs := by rw [h.frame]; exact hp
  have same : AsLoaded s v :=
    { cw_eq := hcw.trans same.cw_eq
      olen_eq := by rw [h.frame]; exact same.olen_eq
      cause_eq := by rw [h.frame]; exact same.cause_eq
      fidx_eq := by rw [h.frame]; exact same.fidx_eq }
  rcases hus v.upc h.upc_mem with hu | hu
  · exact .searching hphase hu same
  · exact .judged hphase hu fun _ => same

theorem exec_searching_stage {s u v : State} {i : Instr} (hp : u.phase = .rs) (hu : u.upc ∈ searchMicros)
    (same : AsLoaded s u) (hf : fetch u = .ok i) (h : exec i u = .next v) : v.host = u.host ∧ Stage s v := by
  have quiet {us : List Micro} (hgoes : RsGoes us u v) : v.host = u.host := by rw [hgoes.frame]
  have goes {us : List Micro} (hgoes : RsGoes us u v) (hcw : v.cw = u.cw)
      (hus : ∀ p ∈ us, p ∈ searchMicros ∨ p = .seqBranch) : v.host = u.host ∧ Stage s v :=
    ⟨quiet hgoes, hgoes.stage hcw hp same hus⟩
  cases hpos : u.upc
  all_goals simp only [fetch, hpos, Except.ok.injEq] at hf
  case group => exact absurd (hpos ▸ hu) (by decide)
  all_goals subst hf
  case rsSynd => exact goes (execRsSynd_goes h) (execRsSynd_keeps_cw h) (by decide)
  case rsZero => exact goes (execRsZero_goes h) (execRsZero_keeps_cw h) (by decide)
  case rsLoc => exact goes (execRsLoc_goes h) (execRsLoc_keeps_cw h) (by decide)
  case rsChien => exact goes (execRsChien_goes h) (execRsChien_keeps_cw h) (by decide)
  case rsCount => exact goes (execRsCount_goes h) (execRsCount_keeps_cw h) (by decide)
  case rsMag => exact goes (execRsMag_goes h) (execRsMag_keeps_cw h) (by decide)
  case rsCorr =>
    have hgoes := execRsCorr_goes h
    exact ⟨quiet hgoes, .corrected (by rw [hgoes.frame]; exact hp) hgoes.upc_eq⟩
  all_goals exact absurd (hpos ▸ hu) (by decide)

/-- SEQ.BRANCH ends the transaction on UNRECOVERABLE and only then (R83). -/
theorem execSeqBranch_stage {s u v : State} (same : u.rsstat = .unrecoverable → AsLoaded s u)
    (h : execSeqBranch u = .next v) : v.host = u.host ∧ Stage s v := by
  cases hstat : u.rsstat with
  | unrecoverable =>
    cases (execSeqBranch_of_unrecoverable hstat).symm.trans h
    exact ⟨rfl, .finished rfl fun _ => ⟨{ same hstat with }, rfl⟩⟩
  | ok | repaired =>
    cases (execSeqBranch_of_passed (by simp [hstat])).symm.trans h
    exact ⟨rfl, .passed rfl List.mem_cons_self (by simp [hstat])⟩

theorem exec_payload_stage {s u v : State} {i : Instr} (hp : u.phase = .payload) (hu : u.upc ∈ payloadMicros)
    (hstat : u.rsstat ≠ .unrecoverable) (hf : fetch u = .ok i) (h : exec i u = .next v) :
    v.host = u.host ∧ Stage s v := by
  have hmoves := exec_payload_moves hu hf
  rw [h] at hmoves
  cases hmoves with
  | goes run hu =>
    exact ⟨(congrArg State.host run.frame).trans rfl,
      .passed (run.phase_eq.trans hp) hu (run.rsstat_eq.trans_ne hstat)⟩
  | ends host stat hdone => exact ⟨host, .finished hdone fun hbad => absurd (stat.symm.trans hbad) hstat⟩

/-- What a busy block with no host event steps to, it executes. -/
theorem exec_of_step {u v : State} (hq : u.host = []) (hb : u.busy = true) (h : step u = .next v) :
    ∃ i, fetch u = .ok i ∧ exec i u = .next v := by
  cases hf : fetch u with
  | ok i => exact ⟨i, rfl, step_of_fetch hq hb hf ▸ h⟩
  | error f => cases (step_of_fetch_error hq hb hf).symm.trans h

theorem exec_of_step_at {u v : State} {i : Instr} (hi : u.upc.instr = some i) (hq : u.host = [])
    (hb : u.busy = true) (h : step u = .next v) : exec i u = .next v :=
  (step_of_fetch hq hb (fetch_of_instr hi)).symm.trans h

theorem Stage.step {s u v : State} (hstage : Stage s u) (hq : u.host = []) (h : step u = .next v) :
    v.host = [] ∧ Stage s v := by
  rw [← hq]
  cases hstage with
  | searching hp hu same =>
    obtain ⟨i, hf, hexec⟩ := exec_of_step hq (busy_of_rs hp) h
    exact exec_searching_stage hp hu same hf hexec
  | corrected hp hu =>
    cases exec_of_step_at (i := .rsEnd) (by rw [hu]; rfl) hq (busy_of_rs hp) h
    exact ⟨rfl, .judged hp rfl nofun⟩
  | judged hp hu same =>
    exact execSeqBranch_stage same (exec_of_step_at (i := .seqBranch) (by rw [hu]; rfl) hq (busy_of_rs hp) h)
  | passed hp hu hstat =>
    obtain ⟨i, hf, hexec⟩ := exec_of_step hq (busy_of_payload hp) h
    exact exec_payload_stage hp hu hstat hf hexec
  | finished hp same =>
    cases (step_of_not_busy hq (by simp [State.busy, hp])).symm.trans h
    exact ⟨rfl, .finished hp same⟩

theorem Stage.run {s u t : State} (k : Nat) (hstage : Stage s u) (hq : u.host = [])
    (h : Host.Core.run Sys2Proof.core k u = .next t) : Stage s t := by
  induction k generalizing u with
  | zero =>
    cases h
    exact hstage
  | succ k ih =>
    rw [core_run_succ] at h
    split at h
    next v hv =>
      obtain ⟨hqv, hstagev⟩ := hstage.step hq hv
      exact ih hstagev hqv h
    all_goals cases h

end Sys2Proof.Machine

open Sys2Proof.Machine

/-- Settles O30: a run at DONE with UNRECOVERABLE was ended by SEQ.BRANCH before any correction, since RS.END reports
REPAIRED and the payload phase keeps `RSSTAT`. -/
theorem unrecoverableLeavesCwAsLoaded : Obligations.UnrecoverableLeavesCwAsLoaded := by
  intro s t k hp hu hq hrun hdone hstat
  have hstart : Stage s s := .searching hp (hu ▸ by decide) ⟨rfl, rfl, rfl, rfl⟩
  cases hstart.run k hq hrun with
  | finished _ same =>
    obtain ⟨⟨hcw, holen, hcause, hfidx⟩, hresult⟩ := same hstat
    exact ⟨fun a => by rw [hcw], hresult, holen, hcause, hfidx⟩
  | searching hp | corrected hp | judged hp | passed hp => cases hdone.symm.trans hp

end

section
/-! PROOFS. The reset and hazards family (70_reset_and_hazards.md): a LOAD of a subset (R239). -/

open Sys2Proof.Machine

/-- Settles O16: a LOAD of cells that exist writes just what it names, so a cell it names once reads as given and any
other as before. -/
theorem loadOfASubsetKeepsTheRest : Obligations.LoadOfASubsetKeepsTheRest := by
  intro s dw ew cells hb hcells hdistinct
  refine ⟨_, execLoad_of_cells hb hcells, rfl, rfl, rfl, ?named, ?others⟩
  case named => exact fun c hc => Mem.read_writeAll_of_mem hdistinct hc s.cw
  case others => exact fun a ha => Mem.read_writeAll_of_not_mem ha s.cw

end
